-- ==== Sys2Proof/Word.lean ====
section
/-! DEFINITION. The bit-vector types of the decode block's input and fields (00_scope.md R7, R8). -/

namespace Sys2Proof

/-- The Instruction Word: "an opaque 32-bit unsigned value, the sole input" (10_state.md R14). -/
abbrev Word := BitVec 32

/-- The 7-bit primary dispatch field `w[6:0]` (30_encoding.md R37). -/
abbrev Opcode := BitVec 7

/-- A register index, 0 to 31; the block knows of registers nothing else (10_state.md R19). -/
abbrev RegIndex := BitVec 5

/-- The 3-bit secondary dispatch field (30_encoding.md R38). -/
abbrev Funct3 := BitVec 3

/-- The 7-bit tertiary dispatch field (30_encoding.md R38). -/
abbrev Funct7 := BitVec 7

end Sys2Proof
end

