-- ==== Sys2Proof/Config.lean ====
section
/-! DEFINITION. The parameters the spec leaves to the model as arguments (00_scope.md R7; 92_eei_decisions.md,
last table), each with both of its values and its default. The parameters the spec fixes are in the types. -/

namespace Sys2Proof

/-- `OPC0_POLICY` (30_encoding.md R45, D7): what becomes of a word whose opcode is `0000000`. -/
inductive Opc0Policy where
  /-- Only the word `0x00000000` is parsed as R-type; the default. -/
  | zeroWordOnly
  /-- Every word with opcode `0000000` is parsed as R-type. -/
  | rAll
  deriving DecidableEq, Repr

/-- `SHIFT_IMM_MATCH` (43_itype.md R102, R110, R111, D8): what the SRLI and SRAI rows compare. -/
inductive ShiftImmMatch where
  /-- `imm[11:5]` with `0000000` and `0100000`; the default. -/
  | funct7Field
  /-- The whole immediate with `0` and `0x20`. -/
  | wholeImm
  deriving DecidableEq, Repr

/-- `TEXT_SEPARATOR` (30_encoding.md R59, D12): what stands between two operands in the text view. -/
inductive TextSeparator where
  /-- One space, no comma; the default. -/
  | space
  /-- A comma and a space. -/
  | commaSpace
  deriving DecidableEq, Repr

/-- The open parameters together (00_scope.md R7). -/
structure Params where
  opc0  : Opc0Policy
  shift : ShiftImmMatch
  sep   : TextSeparator
  deriving DecidableEq, Repr

/-- Every parameter at the spec's default (00_scope.md R7). -/
def Params.default : Params where
  opc0 := .zeroWordOnly
  shift := .funct7Field
  sep := .space

end Sys2Proof
end

