-- ==== Sys2Proof/Syntax.lean ====
section
/-! DEFINITION. The block's output types (the Decoded Instruction of 10_state.md R15 and the operation select of
R17), and `Instr`: one constructor per instruction of spec/opcode_table.json, holding what the record keeps of the
word beyond the bits that select the instruction. -/

namespace Sys2Proof

/-- The tag of a Decoded Instruction: "one of the eight enumerated kinds" (41_decoder.md R79; conflict C2). -/
inductive Tag where
  | R | I | S | B | U | J | FENCE | INVALID
  deriving DecidableEq, Repr

/-- The Decoded Instruction, eight variants with exactly the fields of 10_state.md R15. A field of an inactive
variant does not exist (R16). An immediate is the mathematical signed integer of R22; its range is
`Decoded.wellFormed`. -/
inductive Decoded where
  | rType (opcode : Opcode) (rd : RegIndex) (funct3 : Funct3) (rs1 rs2 : RegIndex) (funct7 : Funct7)
  | iType (opcode : Opcode) (rd : RegIndex) (funct3 : Funct3) (rs1 : RegIndex) (imm : Int)
  | sType (opcode : Opcode) (funct3 : Funct3) (rs1 rs2 : RegIndex) (imm : Int)
  | bType (opcode : Opcode) (funct3 : Funct3) (rs1 rs2 : RegIndex) (imm : Int)
  | uType (opcode : Opcode) (rd : RegIndex) (imm : Int)
  | jType (opcode : Opcode) (rd : RegIndex) (imm : Int)
  | fence (opcode : Opcode)
  | invalid
  deriving DecidableEq, Repr

/-- The operation select: the 41 enumerators of 10_state.md R17, with the spec's spelling. They carry no numbers:
"its numeric encoding is not fixed" (R23). -/
inductive Op where
  | ADD | SUB | SLL | SLT | SLTU | XOR | SRL | SRA | OR | AND
  | JALR | LB | LH | LW | LBU | LHU
  | ADDI | SLTI | SLTIU | XORI | ORI | ANDI | SLLI | SRLI | SRAI | ECALL | EBREAK
  | SB | SH | SW
  | BEQ | BNE | BLT | BGE | BLTU | BGEU
  | LUI | AUIPC
  | JAL
  | FENCE
  | UNKNOWN
  deriving DecidableEq, Repr

/-- Which of the two opcodes an R-type record carries: `0110011`, or `0000000` by the zero-word rule
(30_encoding.md R45, R53; D24). -/
inductive ROpcode where
  /-- Opcode `0110011`. -/
  | op
  /-- Opcode `0000000`: the zero word, and under `R_ALL` every word with that opcode. -/
  | zero
  deriving DecidableEq, Repr

/-- The instructions of spec/opcode_table.json, in the table's order. The operands are the fields of the record that
the instruction's key does not already fix; a field the key ignores but the record reports (30_encoding.md R56) is
an operand too. `add` stands for both ADD rows of the table: the zero word is `add .zero 0 0 0`
(DESIGN CHOICE, log entry 6). -/
inductive Instr where
  | add    (opc : ROpcode) (rd rs1 rs2 : RegIndex)
  | sub    (opc : ROpcode) (rd rs1 rs2 : RegIndex)
  | sll    (opc : ROpcode) (rd rs1 rs2 : RegIndex) (funct7 : Funct7)
  | slt    (opc : ROpcode) (rd rs1 rs2 : RegIndex) (funct7 : Funct7)
  | sltu   (opc : ROpcode) (rd rs1 rs2 : RegIndex) (funct7 : Funct7)
  | xor    (opc : ROpcode) (rd rs1 rs2 : RegIndex) (funct7 : Funct7)
  | srl    (opc : ROpcode) (rd rs1 rs2 : RegIndex)
  | sra    (opc : ROpcode) (rd rs1 rs2 : RegIndex)
  | or     (opc : ROpcode) (rd rs1 rs2 : RegIndex) (funct7 : Funct7)
  | and    (opc : ROpcode) (rd rs1 rs2 : RegIndex) (funct7 : Funct7)
  | jalr   (rd : RegIndex) (funct3 : Funct3) (rs1 : RegIndex) (imm : Int)
  | lb     (rd rs1 : RegIndex) (imm : Int)
  | lh     (rd rs1 : RegIndex) (imm : Int)
  | lw     (rd rs1 : RegIndex) (imm : Int)
  | lbu    (rd rs1 : RegIndex) (imm : Int)
  | lhu    (rd rs1 : RegIndex) (imm : Int)
  | addi   (rd rs1 : RegIndex) (imm : Int)
  | slti   (rd rs1 : RegIndex) (imm : Int)
  | sltiu  (rd rs1 : RegIndex) (imm : Int)
  | xori   (rd rs1 : RegIndex) (imm : Int)
  | ori    (rd rs1 : RegIndex) (imm : Int)
  | andi   (rd rs1 : RegIndex) (imm : Int)
  | slli   (rd rs1 : RegIndex) (imm : Int)
  | srli   (rd rs1 : RegIndex) (imm : Int)
  | srai   (rd rs1 : RegIndex) (imm : Int)
  | ecall  (rd : RegIndex) (funct3 : Funct3) (rs1 : RegIndex)
  | ebreak (rd : RegIndex) (funct3 : Funct3) (rs1 : RegIndex)
  | sb     (rs1 rs2 : RegIndex) (imm : Int)
  | sh     (rs1 rs2 : RegIndex) (imm : Int)
  | sw     (rs1 rs2 : RegIndex) (imm : Int)
  | beq    (rs1 rs2 : RegIndex) (imm : Int)
  | bne    (rs1 rs2 : RegIndex) (imm : Int)
  | blt    (rs1 rs2 : RegIndex) (imm : Int)
  | bge    (rs1 rs2 : RegIndex) (imm : Int)
  | bltu   (rs1 rs2 : RegIndex) (imm : Int)
  | bgeu   (rs1 rs2 : RegIndex) (imm : Int)
  | lui    (rd : RegIndex) (imm : Int)
  | auipc  (rd : RegIndex) (imm : Int)
  | jal    (rd : RegIndex) (imm : Int)
  | fence
  deriving DecidableEq, Repr

/-- Why a word is no instruction of the table: the nine classes of 30_encoding.md R55 by name, and the records
that `decode` never returns (48_formatter.md R141). None of them is a fault: the block answers `UNKNOWN`. -/
inductive Unrecognised where
  /-- R55 row 1: the opcode is none of the eleven and not `0000000`. -/
  | opcode
  /-- R55 row 2: opcode `0000000` in a word other than zero, under `ZERO_WORD_ONLY`. -/
  | opcodeZero
  /-- R55 row 3: R-type, funct3 `000`, unlisted funct7. -/
  | addFunct7
  /-- R55 row 4: R-type, funct3 `101`, unlisted funct7. -/
  | shiftFunct7
  /-- R55 row 5: load opcode, funct3 `011`, `110` or `111`. -/
  | loadFunct3
  /-- R55 row 6: ALU-immediate, funct3 `101`, unlisted upper immediate. -/
  | shiftImm
  /-- R55 row 7: system opcode, immediate neither 0 nor 1. -/
  | systemImm
  /-- R55 row 8: store opcode, funct3 above `010`. -/
  | storeFunct3
  /-- R55 row 9: branch opcode, funct3 `010` or `011`. -/
  | branchFunct3
  /-- A record whose opcode `decode` does not pair with its tag (DESIGN CHOICE, log entry 11). -/
  | recordOpcode
  deriving DecidableEq, Repr

end Sys2Proof
end

