-- ==== Sys2Proof/WellFormed.lean ====
section
/-! DEFINITION. Well-formedness: the ranges of the immediates (10_state.md R15; 30_encoding.md R47 to R51) and the
selecting conditions that the fields of an instruction or a record can break (30_encoding.md R45, R53). -/

namespace Sys2Proof

/-- A signed value of `n` bits: `-2^(n-1) ≤ i < 2^(n-1)` (00_scope.md R9, the range of `sext_n`). -/
def fitsSigned (n : Nat) (i : Int) : Bool :=
  decide (-(2 ^ (n - 1) : Int) ≤ i ∧ i < 2 ^ (n - 1))

/-- The I-type and S-type immediates: 12 bits signed (30_encoding.md R47, R48). -/
def immOk12 (i : Int) : Bool := fitsSigned 12 i

/-- The B-type immediate: 13 bits signed and even (30_encoding.md R49). -/
def immOkB (i : Int) : Bool := fitsSigned 13 i && decide (i % 2 = 0)

/-- The U-type immediate: 20 bits signed, not shifted (30_encoding.md R50). -/
def immOkU (i : Int) : Bool := fitsSigned 20 i

/-- The J-type immediate: 21 bits signed and even (30_encoding.md R51). -/
def immOkJ (i : Int) : Bool := fitsSigned 21 i && decide (i % 2 = 0)

/-- Every field of the record in the range 10_state.md R15 gives it. -/
def Decoded.wellFormed : Decoded → Bool
  | .rType _ _ _ _ _ _ => true
  | .iType _ _ _ _ imm  => immOk12 imm
  | .sType _ _ _ _ imm  => immOk12 imm
  | .bType _ _ _ _ imm  => immOkB imm
  | .uType _ _ imm      => immOkU imm
  | .jType _ _ imm      => immOkJ imm
  | .fence _            => true
  | .invalid            => true

/-- Opcode `0000000` in an R-type word other than the zero word needs `OPC0_POLICY = R_ALL` (30_encoding.md R45). -/
def rOpcodeOk (p : Params) : ROpcode → Bool
  | .op   => true
  | .zero => decide (p.opc0 = .rAll)

/-- The SRLI key: `imm[11:5] = 0000000`, or the whole `imm = 0` (43_itype.md R110). -/
def srliImmOk (p : Params) (imm : Int) : Bool :=
  match p.shift with
  | .funct7Field => decide (0 ≤ imm ∧ imm ≤ 31)
  | .wholeImm    => decide (imm = 0)

/-- The SRAI key: `imm[11:5] = 0100000`, or the whole `imm = 0x20` (43_itype.md R111). -/
def sraiImmOk (p : Params) (imm : Int) : Bool :=
  match p.shift with
  | .funct7Field => decide (1024 ≤ imm ∧ imm ≤ 1055)
  | .wholeImm    => decide (imm = 32)

/-- The instructions some word stands for under the parameters: the immediates in range, the shift keys met, and
opcode `0000000` only where R45 admits it (the zero word, which is ADD, under either policy). -/
def Instr.wellFormed (p : Params) : Instr → Bool
  | .add opc rd rs1 rs2 => rOpcodeOk p opc || decide (rd = 0 ∧ rs1 = 0 ∧ rs2 = 0)
  | .sub opc _ _ _      => rOpcodeOk p opc
  | .sll opc _ _ _ _    => rOpcodeOk p opc
  | .slt opc _ _ _ _    => rOpcodeOk p opc
  | .sltu opc _ _ _ _   => rOpcodeOk p opc
  | .xor opc _ _ _ _    => rOpcodeOk p opc
  | .srl opc _ _ _      => rOpcodeOk p opc
  | .sra opc _ _ _      => rOpcodeOk p opc
  | .or opc _ _ _ _     => rOpcodeOk p opc
  | .and opc _ _ _ _    => rOpcodeOk p opc
  | .jalr _ _ _ imm     => immOk12 imm
  | .lb _ _ imm         => immOk12 imm
  | .lh _ _ imm         => immOk12 imm
  | .lw _ _ imm         => immOk12 imm
  | .lbu _ _ imm        => immOk12 imm
  | .lhu _ _ imm        => immOk12 imm
  | .addi _ _ imm       => immOk12 imm
  | .slti _ _ imm       => immOk12 imm
  | .sltiu _ _ imm      => immOk12 imm
  | .xori _ _ imm       => immOk12 imm
  | .ori _ _ imm        => immOk12 imm
  | .andi _ _ imm       => immOk12 imm
  | .slli _ _ imm       => immOk12 imm
  | .srli _ _ imm       => srliImmOk p imm
  | .srai _ _ imm       => sraiImmOk p imm
  | .ecall _ _ _        => true
  | .ebreak _ _ _       => true
  | .sb _ _ imm         => immOk12 imm
  | .sh _ _ imm         => immOk12 imm
  | .sw _ _ imm         => immOk12 imm
  | .beq _ _ imm        => immOkB imm
  | .bne _ _ imm        => immOkB imm
  | .blt _ _ imm        => immOkB imm
  | .bge _ _ imm        => immOkB imm
  | .bltu _ _ imm       => immOkB imm
  | .bgeu _ _ imm       => immOkB imm
  | .lui _ imm          => immOkU imm
  | .auipc _ imm        => immOkU imm
  | .jal _ imm          => immOkJ imm
  | .fence              => true

end Sys2Proof
end

