-- ==== Sys2Proof/Decode.lean ====
section
/-! DEFINITION. The Field Extractor (40_field_extractor.md), the immediate reconstruction (30_encoding.md R46 to
R51), the Instruction Decoder `decode` (41_decoder.md), the reading of a record as an instruction of the opcode
table, the encoder (the same layouts read the other way), and the opcode table as data. -/

namespace Sys2Proof

/-! ### The Field Extractor -/

/-- `extract(w, off, n) = w[off+n-1 : off]` (R63). The domain `1 ≤ n`, `off + n ≤ 32` is a precondition: a call
outside it cannot be written (R64, D16). -/
def extract (w : Word) (off n : Nat) (_domain : 1 ≤ n ∧ off + n ≤ 32 := by decide) : BitVec n :=
  w.extractLsb' off n

/-- `sext_N(v)`: `v` if its top bit is 0, else `v - 2^N` (00_scope.md R9). -/
def sext {n : Nat} (v : BitVec n) : Int :=
  if v.getLsbD (n - 1) then (v.toNat : Int) - 2 ^ n else v.toNat

/-- `tc_32(i)`: the 32-bit two's-complement pattern of an integer (00_scope.md R9). -/
def tc32 (i : Int) : Word := BitVec.ofInt 32 i

/-- `i & m`: bitwise AND of the two's-complement pattern of `i` with a mask (00_scope.md R9). -/
def andMask (i : Int) (m : Word) : Nat := (tc32 i &&& m).toNat

/-! ### Immediate reconstruction (R46 to R51, calls of R66) -/

/-- `imm_I(w) = sext_12(w[31:20])` (R47). -/
def immI (w : Word) : Int := sext (extract w 20 12)

/-- `imm_S(w) = sext_12(w[31:25] ++ w[11:7])` (R48). -/
def immS (w : Word) : Int := sext (extract w 25 7 ++ extract w 7 5)

/-- `imm_B(w) = sext_13(w[31] ++ w[7] ++ w[30:25] ++ w[11:8] ++ 0)` (R49). -/
def immB (w : Word) : Int :=
  sext (extract w 31 1 ++ extract w 7 1 ++ extract w 25 6 ++ extract w 8 4 ++ 0#1)

/-- `imm_U(w) = sext_20(w[31:12])`, not shifted (R50, conflict C4). -/
def immU (w : Word) : Int := sext (extract w 12 20)

/-- `imm_J(w) = sext_21(w[31] ++ w[19:12] ++ w[20] ++ w[30:21] ++ 0)`; the sign goes into every higher bit (R51,
conflict C6). -/
def immJ (w : Word) : Int :=
  sext (extract w 31 1 ++ extract w 12 8 ++ extract w 20 1 ++ extract w 21 10 ++ 0#1)

/-- `f7(r) = tc_32(imm)[11:5]` (43_itype.md R102). -/
def immUpper (imm : Int) : Funct7 := extract (tc32 imm) 5 7

/-- `shamt(r) = imm & 0x1F` (43_itype.md R102). -/
def shamt (imm : Int) : Nat := andMask imm 0x1F

/-! ### The six parsers and the multiplexer -/

/-- 41_decoder.md R70. -/
def parseR (w : Word) : Decoded :=
  .rType (extract w 0 7) (extract w 7 5) (extract w 12 3) (extract w 15 5) (extract w 20 5) (extract w 25 7)

/-- 41_decoder.md R71. -/
def parseI (w : Word) : Decoded :=
  .iType (extract w 0 7) (extract w 7 5) (extract w 12 3) (extract w 15 5) (immI w)

/-- 41_decoder.md R72. -/
def parseS (w : Word) : Decoded :=
  .sType (extract w 0 7) (extract w 12 3) (extract w 15 5) (extract w 20 5) (immS w)

/-- 41_decoder.md R73. -/
def parseB (w : Word) : Decoded :=
  .bType (extract w 0 7) (extract w 12 3) (extract w 15 5) (extract w 20 5) (immB w)

/-- 41_decoder.md R74. -/
def parseU (w : Word) : Decoded := .uType (extract w 0 7) (extract w 7 5) (immU w)

/-- 41_decoder.md R75. -/
def parseJ (w : Word) : Decoded := .jType (extract w 0 7) (extract w 7 5) (immJ w)

/-- The opcode-dispatch multiplexer (41_decoder.md R69): total, one variant for every word. The last arm but one is
the zero-word rule of 30_encoding.md R45. -/
def decode (p : Params) (w : Word) : Decoded :=
  let opc := extract w 0 7
  if opc = 0b0110111 ∨ opc = 0b0010111 then parseU w
  else if opc = 0b1101111 then parseJ w
  else if opc = 0b1100111 ∨ opc = 0b0000011 ∨ opc = 0b0010011 ∨ opc = 0b1110011 then parseI w
  else if opc = 0b1100011 then parseB w
  else if opc = 0b0100011 then parseS w
  else if opc = 0b0110011 then parseR w
  else if opc = 0b0001111 then .fence opc
  else if opc = 0b0000000 ∧ (w = 0 ∨ p.opc0 = .rAll) then parseR w
  else .invalid

/-- The tag of a record (10_state.md R15). -/
def Decoded.tag : Decoded → Tag
  | .rType _ _ _ _ _ _ => .R
  | .iType _ _ _ _ _   => .I
  | .sType _ _ _ _ _   => .S
  | .bType _ _ _ _ _   => .B
  | .uType _ _ _       => .U
  | .jType _ _ _       => .J
  | .fence _           => .FENCE
  | .invalid           => .INVALID

/-! ### A record read as an instruction of the opcode table -/

/-- The R-type rows (42_rtype.md R81 to R92). -/
def recogniseR (opc : ROpcode) (rd : RegIndex) (funct3 : Funct3) (rs1 rs2 : RegIndex) (funct7 : Funct7) :
    Except Unrecognised Instr :=
  match funct3 with
  | 0b000 =>
    if funct7 = 0b0000000 then .ok (.add opc rd rs1 rs2)
    else if funct7 = 0b0100000 then .ok (.sub opc rd rs1 rs2)
    else .error .addFunct7
  | 0b001 => .ok (.sll opc rd rs1 rs2 funct7)
  | 0b010 => .ok (.slt opc rd rs1 rs2 funct7)
  | 0b011 => .ok (.sltu opc rd rs1 rs2 funct7)
  | 0b100 => .ok (.xor opc rd rs1 rs2 funct7)
  | 0b101 =>
    if funct7 = 0b0000000 then .ok (.srl opc rd rs1 rs2)
    else if funct7 = 0b0100000 then .ok (.sra opc rd rs1 rs2)
    else .error .shiftFunct7
  | 0b110 => .ok (.or opc rd rs1 rs2 funct7)
  | 0b111 => .ok (.and opc rd rs1 rs2 funct7)

/-- The load rows (43_itype.md R95 to R101). -/
def recogniseLoad (rd : RegIndex) (funct3 : Funct3) (rs1 : RegIndex) (imm : Int) : Except Unrecognised Instr :=
  match funct3 with
  | 0b000 => .ok (.lb rd rs1 imm)
  | 0b001 => .ok (.lh rd rs1 imm)
  | 0b010 => .ok (.lw rd rs1 imm)
  | 0b100 => .ok (.lbu rd rs1 imm)
  | 0b101 => .ok (.lhu rd rs1 imm)
  | 0b011 | 0b110 | 0b111 => .error .loadFunct3

/-- The ALU-immediate rows (43_itype.md R102 to R112). -/
def recogniseAluImm (p : Params) (rd : RegIndex) (funct3 : Funct3) (rs1 : RegIndex) (imm : Int) :
    Except Unrecognised Instr :=
  match funct3 with
  | 0b000 => .ok (.addi rd rs1 imm)
  | 0b001 => .ok (.slli rd rs1 imm)
  | 0b010 => .ok (.slti rd rs1 imm)
  | 0b011 => .ok (.sltiu rd rs1 imm)
  | 0b100 => .ok (.xori rd rs1 imm)
  | 0b101 =>
    match p.shift with
    | .funct7Field =>
      if immUpper imm = 0b0000000 then .ok (.srli rd rs1 imm)
      else if immUpper imm = 0b0100000 then .ok (.srai rd rs1 imm)
      else .error .shiftImm
    | .wholeImm =>
      if imm = 0 then .ok (.srli rd rs1 imm)
      else if imm = 0x20 then .ok (.srai rd rs1 imm)
      else .error .shiftImm
  | 0b110 => .ok (.ori rd rs1 imm)
  | 0b111 => .ok (.andi rd rs1 imm)

/-- The system rows (43_itype.md R113 to R115): keyed on the whole immediate, nothing else tested. -/
def recogniseSystem (rd : RegIndex) (funct3 : Funct3) (rs1 : RegIndex) (imm : Int) : Except Unrecognised Instr :=
  if imm = 0 then .ok (.ecall rd funct3 rs1)
  else if imm = 1 then .ok (.ebreak rd funct3 rs1)
  else .error .systemImm

/-- The I-type arm: opcode first, then the opcode's key (43_itype.md R93). -/
def recogniseI (p : Params) (opcode : Opcode) (rd : RegIndex) (funct3 : Funct3) (rs1 : RegIndex) (imm : Int) :
    Except Unrecognised Instr :=
  if opcode = 0b1100111 then .ok (.jalr rd funct3 rs1 imm)
  else if opcode = 0b0000011 then recogniseLoad rd funct3 rs1 imm
  else if opcode = 0b0010011 then recogniseAluImm p rd funct3 rs1 imm
  else if opcode = 0b1110011 then recogniseSystem rd funct3 rs1 imm
  else .error .recordOpcode

/-- The store rows (44_stype.md R116 to R120). -/
def recogniseS (funct3 : Funct3) (rs1 rs2 : RegIndex) (imm : Int) : Except Unrecognised Instr :=
  match funct3 with
  | 0b000 => .ok (.sb rs1 rs2 imm)
  | 0b001 => .ok (.sh rs1 rs2 imm)
  | 0b010 => .ok (.sw rs1 rs2 imm)
  | 0b011 | 0b100 | 0b101 | 0b110 | 0b111 => .error .storeFunct3

/-- The branch rows (45_btype.md R121 to R128). -/
def recogniseB (funct3 : Funct3) (rs1 rs2 : RegIndex) (imm : Int) : Except Unrecognised Instr :=
  match funct3 with
  | 0b000 => .ok (.beq rs1 rs2 imm)
  | 0b001 => .ok (.bne rs1 rs2 imm)
  | 0b100 => .ok (.blt rs1 rs2 imm)
  | 0b101 => .ok (.bge rs1 rs2 imm)
  | 0b110 => .ok (.bltu rs1 rs2 imm)
  | 0b111 => .ok (.bgeu rs1 rs2 imm)
  | 0b010 | 0b011 => .error .branchFunct3

/-- The upper-immediate rows, by opcode (46_utype_jtype.md R129). -/
def recogniseU (opcode : Opcode) (rd : RegIndex) (imm : Int) : Except Unrecognised Instr :=
  if opcode = 0b0110111 then .ok (.lui rd imm)
  else if opcode = 0b0010111 then .ok (.auipc rd imm)
  else .error .recordOpcode

/-- Which of the two R-type opcodes a record carries. -/
def rOpcodeOf (opcode : Opcode) : Except Unrecognised ROpcode :=
  if opcode = 0b0110011 then .ok .op
  else if opcode = 0b0000000 then .ok .zero
  else .error .recordOpcode

/-- The opcode field of an R-type record (30_encoding.md R45; D24). -/
def ROpcode.bits : ROpcode → Opcode
  | .op   => 0b0110011
  | .zero => 0b0000000

/-- The record read as an instruction of the table, or the reason why it is none (30_encoding.md R53, R55). -/
def recognise (p : Params) : Decoded → Except Unrecognised Instr
  | .rType opcode rd funct3 rs1 rs2 funct7 =>
    match rOpcodeOf opcode with
    | .ok opc   => recogniseR opc rd funct3 rs1 rs2 funct7
    | .error e  => .error e
  | .iType opcode rd funct3 rs1 imm => recogniseI p opcode rd funct3 rs1 imm
  | .sType opcode funct3 rs1 rs2 imm =>
    if opcode = 0b0100011 then recogniseS funct3 rs1 rs2 imm else .error .recordOpcode
  | .bType opcode funct3 rs1 rs2 imm =>
    if opcode = 0b1100011 then recogniseB funct3 rs1 rs2 imm else .error .recordOpcode
  | .uType opcode rd imm => recogniseU opcode rd imm
  | .jType opcode rd imm => if opcode = 0b1101111 then .ok (.jal rd imm) else .error .recordOpcode
  | .fence opcode => if opcode = 0b0001111 then .ok .fence else .error .recordOpcode
  | .invalid => .error .opcode

/-- The instruction a word stands for, total on all words; a word that is none is rejected by the name of its class
in 30_encoding.md R55. -/
def decodeInstr (p : Params) (w : Word) : Except Unrecognised Instr :=
  match decode p w with
  | .invalid => if extract w 0 7 = 0b0000000 then .error .opcodeZero else .error .opcode
  | r        => recognise p r

/-- The instruction of a table word under the default parameters; the block takes its word as a number, bit 0 the
least significant (00_scope.md R8; 20_memory.md R28; DESIGN CHOICE, log entry 12). -/
def decodeTableWord (nbits w : Nat) : Option Instr :=
  match decodeInstr Params.default (BitVec.ofNat 32 (w % 2 ^ nbits)) with
  | .ok i    => some i
  | .error _ => none

/-! ### The encoder: the layouts of 30_encoding.md R39 to R42 -/

/-- R39. -/
def packR (opcode : Opcode) (rd : RegIndex) (funct3 : Funct3) (rs1 rs2 : RegIndex) (funct7 : Funct7) : Word :=
  funct7 ++ rs2 ++ rs1 ++ funct3 ++ rd ++ opcode

/-- R40. -/
def packI (opcode : Opcode) (rd : RegIndex) (funct3 : Funct3) (rs1 : RegIndex) (imm : BitVec 12) : Word :=
  imm ++ rs1 ++ funct3 ++ rd ++ opcode

/-- R41, S row. -/
def packS (opcode : Opcode) (funct3 : Funct3) (rs1 rs2 : RegIndex) (imm : BitVec 12) : Word :=
  imm.extractLsb' 5 7 ++ rs2 ++ rs1 ++ funct3 ++ imm.extractLsb' 0 5 ++ opcode

/-- R41, B row. -/
def packB (opcode : Opcode) (funct3 : Funct3) (rs1 rs2 : RegIndex) (imm : BitVec 13) : Word :=
  imm.extractLsb' 12 1 ++ imm.extractLsb' 5 6 ++ rs2 ++ rs1 ++ funct3 ++ imm.extractLsb' 1 4
    ++ imm.extractLsb' 11 1 ++ opcode

/-- R42, U row. -/
def packU (opcode : Opcode) (rd : RegIndex) (imm : BitVec 20) : Word := imm ++ rd ++ opcode

/-- R42, J row. -/
def packJ (opcode : Opcode) (rd : RegIndex) (imm : BitVec 21) : Word :=
  imm.extractLsb' 20 1 ++ imm.extractLsb' 1 10 ++ imm.extractLsb' 11 1 ++ imm.extractLsb' 12 8 ++ rd ++ opcode

/-- Re-packing the fields of a record by its layout (41_decoder.md R80); the FENCE and INVALID records do not keep
the word. -/
def Decoded.repack : Decoded → Option Word
  | .rType opcode rd funct3 rs1 rs2 funct7 => some (packR opcode rd funct3 rs1 rs2 funct7)
  | .iType opcode rd funct3 rs1 imm        => some (packI opcode rd funct3 rs1 (.ofInt 12 imm))
  | .sType opcode funct3 rs1 rs2 imm       => some (packS opcode funct3 rs1 rs2 (.ofInt 12 imm))
  | .bType opcode funct3 rs1 rs2 imm       => some (packB opcode funct3 rs1 rs2 (.ofInt 13 imm))
  | .uType opcode rd imm                   => some (packU opcode rd (.ofInt 20 imm))
  | .jType opcode rd imm                   => some (packJ opcode rd (.ofInt 21 imm))
  | .fence _                               => none
  | .invalid                               => none

/-- The word of a well-formed instruction. FENCE keeps none of `w[31:7]`, and its word has them zero
(DESIGN CHOICE, log entry 5). -/
def encode : Instr → Word
  | .add opc rd rs1 rs2         => packR opc.bits rd 0b000 rs1 rs2 0b0000000
  | .sub opc rd rs1 rs2         => packR opc.bits rd 0b000 rs1 rs2 0b0100000
  | .sll opc rd rs1 rs2 funct7  => packR opc.bits rd 0b001 rs1 rs2 funct7
  | .slt opc rd rs1 rs2 funct7  => packR opc.bits rd 0b010 rs1 rs2 funct7
  | .sltu opc rd rs1 rs2 funct7 => packR opc.bits rd 0b011 rs1 rs2 funct7
  | .xor opc rd rs1 rs2 funct7  => packR opc.bits rd 0b100 rs1 rs2 funct7
  | .srl opc rd rs1 rs2         => packR opc.bits rd 0b101 rs1 rs2 0b0000000
  | .sra opc rd rs1 rs2         => packR opc.bits rd 0b101 rs1 rs2 0b0100000
  | .or opc rd rs1 rs2 funct7   => packR opc.bits rd 0b110 rs1 rs2 funct7
  | .and opc rd rs1 rs2 funct7  => packR opc.bits rd 0b111 rs1 rs2 funct7
  | .jalr rd funct3 rs1 imm     => packI 0b1100111 rd funct3 rs1 (.ofInt 12 imm)
  | .lb rd rs1 imm              => packI 0b0000011 rd 0b000 rs1 (.ofInt 12 imm)
  | .lh rd rs1 imm              => packI 0b0000011 rd 0b001 rs1 (.ofInt 12 imm)
  | .lw rd rs1 imm              => packI 0b0000011 rd 0b010 rs1 (.ofInt 12 imm)
  | .lbu rd rs1 imm             => packI 0b0000011 rd 0b100 rs1 (.ofInt 12 imm)
  | .lhu rd rs1 imm             => packI 0b0000011 rd 0b101 rs1 (.ofInt 12 imm)
  | .addi rd rs1 imm            => packI 0b0010011 rd 0b000 rs1 (.ofInt 12 imm)
  | .slti rd rs1 imm            => packI 0b0010011 rd 0b010 rs1 (.ofInt 12 imm)
  | .sltiu rd rs1 imm           => packI 0b0010011 rd 0b011 rs1 (.ofInt 12 imm)
  | .xori rd rs1 imm            => packI 0b0010011 rd 0b100 rs1 (.ofInt 12 imm)
  | .ori rd rs1 imm             => packI 0b0010011 rd 0b110 rs1 (.ofInt 12 imm)
  | .andi rd rs1 imm            => packI 0b0010011 rd 0b111 rs1 (.ofInt 12 imm)
  | .slli rd rs1 imm            => packI 0b0010011 rd 0b001 rs1 (.ofInt 12 imm)
  | .srli rd rs1 imm            => packI 0b0010011 rd 0b101 rs1 (.ofInt 12 imm)
  | .srai rd rs1 imm            => packI 0b0010011 rd 0b101 rs1 (.ofInt 12 imm)
  | .ecall rd funct3 rs1        => packI 0b1110011 rd funct3 rs1 0
  | .ebreak rd funct3 rs1       => packI 0b1110011 rd funct3 rs1 1
  | .sb rs1 rs2 imm             => packS 0b0100011 0b000 rs1 rs2 (.ofInt 12 imm)
  | .sh rs1 rs2 imm             => packS 0b0100011 0b001 rs1 rs2 (.ofInt 12 imm)
  | .sw rs1 rs2 imm             => packS 0b0100011 0b010 rs1 rs2 (.ofInt 12 imm)
  | .beq rs1 rs2 imm            => packB 0b1100011 0b000 rs1 rs2 (.ofInt 13 imm)
  | .bne rs1 rs2 imm            => packB 0b1100011 0b001 rs1 rs2 (.ofInt 13 imm)
  | .blt rs1 rs2 imm            => packB 0b1100011 0b100 rs1 rs2 (.ofInt 13 imm)
  | .bge rs1 rs2 imm            => packB 0b1100011 0b101 rs1 rs2 (.ofInt 13 imm)
  | .bltu rs1 rs2 imm           => packB 0b1100011 0b110 rs1 rs2 (.ofInt 13 imm)
  | .bgeu rs1 rs2 imm           => packB 0b1100011 0b111 rs1 rs2 (.ofInt 13 imm)
  | .lui rd imm                 => packU 0b0110111 rd (.ofInt 20 imm)
  | .auipc rd imm               => packU 0b0010111 rd (.ofInt 20 imm)
  | .jal rd imm                 => packJ 0b1101111 rd (.ofInt 21 imm)
  | .fence                      => 0x0000000F

/-- The operation select an instruction stands for (10_state.md R17). -/
def Instr.op : Instr → Op
  | .add _ _ _ _ => .ADD
  | .sub _ _ _ _ => .SUB
  | .sll _ _ _ _ _ => .SLL
  | .slt _ _ _ _ _ => .SLT
  | .sltu _ _ _ _ _ => .SLTU
  | .xor _ _ _ _ _ => .XOR
  | .srl _ _ _ _ => .SRL
  | .sra _ _ _ _ => .SRA
  | .or _ _ _ _ _ => .OR
  | .and _ _ _ _ _ => .AND
  | .jalr _ _ _ _ => .JALR
  | .lb _ _ _ => .LB
  | .lh _ _ _ => .LH
  | .lw _ _ _ => .LW
  | .lbu _ _ _ => .LBU
  | .lhu _ _ _ => .LHU
  | .addi _ _ _ => .ADDI
  | .slti _ _ _ => .SLTI
  | .sltiu _ _ _ => .SLTIU
  | .xori _ _ _ => .XORI
  | .ori _ _ _ => .ORI
  | .andi _ _ _ => .ANDI
  | .slli _ _ _ => .SLLI
  | .srli _ _ _ => .SRLI
  | .srai _ _ _ => .SRAI
  | .ecall _ _ _ => .ECALL
  | .ebreak _ _ _ => .EBREAK
  | .sb _ _ _ => .SB
  | .sh _ _ _ => .SH
  | .sw _ _ _ => .SW
  | .beq _ _ _ => .BEQ
  | .bne _ _ _ => .BNE
  | .blt _ _ _ => .BLT
  | .bge _ _ _ => .BGE
  | .bltu _ _ _ => .BLTU
  | .bgeu _ _ _ => .BGEU
  | .lui _ _ => .LUI
  | .auipc _ _ => .AUIPC
  | .jal _ _ => .JAL
  | .fence => .FENCE

/-! ### The opcode table as data -/

/-- A row of spec/opcode_table.json: its operation, its printed mnemonic (the column "text"), match and mask. -/
structure TableRow where
  op      : Op
  printed : String
  pattern : Word
  mask    : Word
  deriving DecidableEq, Repr

/-- The row matches the word: `w & mask = match` (48_formatter.md R145). -/
def TableRow.matchesWord (r : TableRow) (w : Word) : Prop := w &&& r.mask = r.pattern

def tableR : List TableRow :=
  [⟨.ADD, "ADD", 0x00000033, 0xFE00707F⟩, ⟨.SUB, "SUB", 0x40000033, 0xFE00707F⟩,
   ⟨.SLL, "SLL", 0x00001033, 0x0000707F⟩, ⟨.SLT, "SLT", 0x00002033, 0x0000707F⟩,
   ⟨.SLTU, "SLTU", 0x00003033, 0x0000707F⟩, ⟨.XOR, "XOR", 0x00004033, 0x0000707F⟩,
   ⟨.SRL, "SRL", 0x00005033, 0xFE00707F⟩, ⟨.SRA, "SRA", 0x40005033, 0xFE00707F⟩,
   ⟨.OR, "OR", 0x00006033, 0x0000707F⟩, ⟨.AND, "AND", 0x00007033, 0x0000707F⟩]

/-- The zero-word row, or, under `R_ALL`, every R-type row with opcode bits `0000000` (the row's note). -/
def tableOpcodeZero (p : Params) : List TableRow :=
  match p.opc0 with
  | .zeroWordOnly => [⟨.ADD, "ADD", 0x00000000, 0xFFFFFFFF⟩]
  | .rAll         => tableR.map fun r => { r with pattern := r.pattern &&& 0xFFFFFF80 }

def tableI : List TableRow :=
  [⟨.JALR, "JALR", 0x00000067, 0x0000007F⟩, ⟨.LB, "LB", 0x00000003, 0x0000707F⟩,
   ⟨.LH, "LH", 0x00001003, 0x0000707F⟩, ⟨.LW, "LW", 0x00002003, 0x0000707F⟩,
   ⟨.LBU, "LBU", 0x00004003, 0x0000707F⟩, ⟨.LHU, "LHU", 0x00005003, 0x0000707F⟩,
   ⟨.ADDI, "ADDI", 0x00000013, 0x0000707F⟩, ⟨.SLTI, "SLTI", 0x00002013, 0x0000707F⟩,
   ⟨.SLTIU, "SLTU", 0x00003013, 0x0000707F⟩, ⟨.XORI, "XORI", 0x00004013, 0x0000707F⟩,
   ⟨.ORI, "ORI", 0x00006013, 0x0000707F⟩, ⟨.ANDI, "ANDI", 0x00007013, 0x0000707F⟩,
   ⟨.SLLI, "SLLI", 0x00001013, 0x0000707F⟩, ⟨.ECALL, "ECALL", 0x00000073, 0xFFF0007F⟩,
   ⟨.EBREAK, "EBREAK", 0x00100073, 0xFFF0007F⟩]

/-- The SRLI and SRAI rows, with the rows of their notes under `WHOLE_IMM` (43_itype.md R110, R111). -/
def tableShiftImm (p : Params) : List TableRow :=
  match p.shift with
  | .funct7Field => [⟨.SRLI, "SRLI", 0x00005013, 0xFE00707F⟩, ⟨.SRAI, "SRAI", 0x40005013, 0xFE00707F⟩]
  | .wholeImm    => [⟨.SRLI, "SRLI", 0x00005013, 0xFFF0707F⟩, ⟨.SRAI, "SRAI", 0x02005013, 0xFFF0707F⟩]

def tableSB : List TableRow :=
  [⟨.SB, "SB", 0x00000023, 0x0000707F⟩, ⟨.SH, "SH", 0x00001023, 0x0000707F⟩,
   ⟨.SW, "SW", 0x00002023, 0x0000707F⟩, ⟨.BEQ, "BEQ", 0x00000063, 0x0000707F⟩,
   ⟨.BNE, "BNE", 0x00001063, 0x0000707F⟩, ⟨.BLT, "BLT", 0x00004063, 0x0000707F⟩,
   ⟨.BGE, "BGE", 0x00005063, 0x0000707F⟩, ⟨.BLTU, "BLTU", 0x00006063, 0x0000707F⟩,
   ⟨.BGEU, "BGEU", 0x00007063, 0x0000707F⟩]

def tableUJFence : List TableRow :=
  [⟨.LUI, "LUI", 0x00000037, 0x0000007F⟩, ⟨.AUIPC, "AUIPC", 0x00000017, 0x0000007F⟩,
   ⟨.JAL, "JAL", 0x0000006F, 0x0000007F⟩, ⟨.FENCE, "FENCE", 0x0000000F, 0x0000007F⟩]

/-- The opcode table under the parameters. -/
def opcodeTable (p : Params) : List TableRow :=
  tableR ++ tableOpcodeZero p ++ tableI ++ tableShiftImm p ++ tableSB ++ tableUJFence

end Sys2Proof
end

