-- ==== Sys2Proof/Machine/State.lean ====
section
/-! DEFINITION. The state of the model. The block itself has none (10_state.md R13, R26): State holds its
parameters, the words the caller has still to present and the outputs the caller has read back. -/

namespace Sys2Proof.Machine

/-- The block's outputs for one word: the record (10_state.md R15), the operation select and the legality bit (R17),
and the text view's string (R18). -/
structure Output where
  record : Decoded
  op     : Op
  legal  : Bool
  text   : String
  deriving DecidableEq, Repr

/-- The parameters of the block (00_scope.md R7), and the caller's two lists (70_reset_and_hazards.md R160):
`pending`, the words still to be presented, the next one first; `results`, the outputs so far, the oldest first.
Nothing else exists: no register, pc, flag or memory (10_state.md R19 to R21, R25; 20_memory.md R27; log entries 1, 2
and 9). -/
structure State where
  params  : Params
  pending : List Word
  results : List Output
  deriving DecidableEq, Repr

/-- The block raises no fault for any input (60_exceptions.md R146), so there is no fault to name and none can be
raised: the type has no constructor (safe: nothing is stopped). -/
inductive Fault
  deriving DecidableEq, Repr

/-- Why a step makes no evaluation. -/
inductive Refusal where
  /-- Raised by an arm of `exec` whose instruction has no meaning yet; safe. No arm raises it. -/
  | notModelled (mnemonic : String)
  /-- Raised by `step`, never by an instruction, when the caller has no further word: "the end of a run is the end
  of the caller's list" (70_reset_and_hazards.md R160), and an undriven input is outside the model (93 U12); safe,
  the machine stops where the run ends (log entry 4). -/
  | noWordPresented
  deriving DecidableEq, Repr

/-- The end of a step: `Host.Outcome` at this machine's types. -/
abbrev Result := Host.Outcome State Fault Refusal

/-- There is nothing to reset (10_state.md R26; 70_reset_and_hazards.md R157): the parameters at the spec's defaults,
and the caller has neither presented a word nor read a result (DESIGN CHOICE, log entries 1 to 3). -/
def State.reset : State where
  params := Params.default
  pending := []
  results := []

end Sys2Proof.Machine
end

