-- ==== Sys2Proof/Machine/Operands.lean ====
section
/-! DEFINITION. The operand forms of the text view (30_encoding.md R59 to R61). -/

namespace Sys2Proof.Machine

/-- `TEXT_SEPARATOR` (30_encoding.md R59). -/
def separator : TextSeparator → String
  | .space      => " "
  | .commaSpace => ", "

/-- `dec(i)`: the shortest signed decimal numeral (00_scope.md R9; 30_encoding.md R60). -/
def dec : Int → String
  | .ofNat n   => Nat.repr n
  | .negSucc n => "-" ++ Nat.repr (n + 1)

/-- `X(i) = "x" ++ dec(i)`: the raw index, no ABI name (30_encoding.md R60). -/
def regText (i : RegIndex) : String := "x" ++ dec i.toNat

/-- `MNEMONIC rd, rs1, rs2` (30_encoding.md R61, register-register). -/
def textThreeRegs (sep : TextSeparator) (mnemonic : String) (rd rs1 rs2 : RegIndex) : String :=
  mnemonic ++ " " ++ regText rd ++ separator sep ++ regText rs1 ++ separator sep ++ regText rs2

/-- `MNEMONIC ra, rb, imm`: JALR, register-immediate, shifts and branches (30_encoding.md R61). -/
def textTwoRegsImm (sep : TextSeparator) (mnemonic : String) (ra rb : RegIndex) (imm : Int) : String :=
  mnemonic ++ " " ++ regText ra ++ separator sep ++ regText rb ++ separator sep ++ dec imm

/-- `MNEMONIC r, imm(base)`: loads and stores, no space inside (30_encoding.md R60, R61). -/
def textBaseOffset (sep : TextSeparator) (mnemonic : String) (r : RegIndex) (imm : Int) (base : RegIndex) : String :=
  mnemonic ++ " " ++ regText r ++ separator sep ++ dec imm ++ "(" ++ regText base ++ ")"

/-- `MNEMONIC rd, imm`: upper immediate and jump (30_encoding.md R61). -/
def textRegImm (sep : TextSeparator) (mnemonic : String) (rd : RegIndex) (imm : Int) : String :=
  mnemonic ++ " " ++ regText rd ++ separator sep ++ dec imm

/-- The placeholder of 47_fence_invalid.md R135. -/
def invalidText : String := "Invalid instruction"

end Sys2Proof.Machine
end

