-- ==== Sys2Proof/Machine/Flags.lean ====
section
/-! DEFINITION. The block has no flag and writes none (10_state.md R21); its one derived output bit is `legal`. -/

namespace Sys2Proof.Machine

/-- `legal = (op != UNKNOWN)` (10_state.md R17; 48_formatter.md R139). -/
def legalOf (op : Op) : Bool := decide (op ≠ .UNKNOWN)

end Sys2Proof.Machine
end

