-- ==== Sys2Proof/Machine/Ops.lean ====
section
/-! DEFINITION. The operations of a step: the caller presents a word, the step takes it and delivers the outputs for
it. There is no operation that takes an exception or returns from one: the block has no trap entry and no trap return
(60_exceptions.md R152, R153). There is none that reads or writes a register or a memory: the block has neither
(10_state.md R19; 20_memory.md R27). -/

namespace Sys2Proof.Machine

/-- The caller's list of words still to be presented, replaced. -/
def State.setPending (s : State) (ws : List Word) : State := { s with pending := ws }

/-- One more output read back, after those before it (70_reset_and_hazards.md R160: "the list of outputs in the same
order"). -/
def State.addResult (s : State) (o : Output) : State := { s with results := s.results ++ [o] }

/-- The word becomes the one the caller presents next, in place of the one it would have presented (log entry 3). -/
def presentWord (w : Word) (s : State) : State := s.setPending (w :: s.pending.drop 1)

/-- The word the caller presents next, and the state with that word taken (70_reset_and_hazards.md R160). -/
def takeWord (s : State) : Option (Word × State) :=
  match s.pending with
  | []        => none
  | w :: rest => some (w, s.setPending rest)

/-- The end of an evaluation: the record, `op`, `legal` and the text are handed to the caller. Nothing else
changes. -/
def deliver (op : Op) (record : Decoded) (text : String) (s : State) : Result :=
  .next (s.addResult ⟨record, op, legalOf op, text⟩)

end Sys2Proof.Machine
end

