-- ==== Sys2Proof/Machine/AluImm.lean ====
section
/-! DEFINITION. The meanings of the ALU-immediate instructions (43_itype.md R102 to R112): the six register-immediate forms
print the whole signed immediate, the three shifts print `imm & 0x1F`. Flags: none. Exceptions: none. -/

namespace Sys2Proof.Machine

/-- ADDI (43_itype.md R103). -/
def execAddi (rd rs1 : RegIndex) (imm : Int) (s : State) : Result :=
  deliver .ADDI (.iType 0b0010011 rd 0b000 rs1 imm) (textTwoRegsImm s.params.sep "ADDI" rd rs1 imm) s

/-- SLTI (43_itype.md R104). -/
def execSlti (rd rs1 : RegIndex) (imm : Int) (s : State) : Result :=
  deliver .SLTI (.iType 0b0010011 rd 0b010 rs1 imm) (textTwoRegsImm s.params.sep "SLTI" rd rs1 imm) s

/-- SLTIU (43_itype.md R105), printed `SLTU` with the signed immediate. -/
def execSltiu (rd rs1 : RegIndex) (imm : Int) (s : State) : Result :=
  deliver .SLTIU (.iType 0b0010011 rd 0b011 rs1 imm) (textTwoRegsImm s.params.sep "SLTU" rd rs1 imm) s

/-- XORI (43_itype.md R106). -/
def execXori (rd rs1 : RegIndex) (imm : Int) (s : State) : Result :=
  deliver .XORI (.iType 0b0010011 rd 0b100 rs1 imm) (textTwoRegsImm s.params.sep "XORI" rd rs1 imm) s

/-- ORI (43_itype.md R107). -/
def execOri (rd rs1 : RegIndex) (imm : Int) (s : State) : Result :=
  deliver .ORI (.iType 0b0010011 rd 0b110 rs1 imm) (textTwoRegsImm s.params.sep "ORI" rd rs1 imm) s

/-- ANDI (43_itype.md R108). -/
def execAndi (rd rs1 : RegIndex) (imm : Int) (s : State) : Result :=
  deliver .ANDI (.iType 0b0010011 rd 0b111 rs1 imm) (textTwoRegsImm s.params.sep "ANDI" rd rs1 imm) s

/-- SLLI (43_itype.md R109): any upper immediate, reported and not printed. -/
def execSlli (rd rs1 : RegIndex) (imm : Int) (s : State) : Result :=
  deliver .SLLI (.iType 0b0010011 rd 0b001 rs1 imm) (textTwoRegsImm s.params.sep "SLLI" rd rs1 (shamt imm)) s

/-- SRLI (43_itype.md R110). -/
def execSrli (rd rs1 : RegIndex) (imm : Int) (s : State) : Result :=
  deliver .SRLI (.iType 0b0010011 rd 0b101 rs1 imm) (textTwoRegsImm s.params.sep "SRLI" rd rs1 (shamt imm)) s

/-- SRAI (43_itype.md R111): the record's `imm` is `1024 + shamt`, or 32 under `WHOLE_IMM`. -/
def execSrai (rd rs1 : RegIndex) (imm : Int) (s : State) : Result :=
  deliver .SRAI (.iType 0b0010011 rd 0b101 rs1 imm) (textTwoRegsImm s.params.sep "SRAI" rd rs1 (shamt imm)) s

end Sys2Proof.Machine
end

