-- ==== Sys2Proof/Machine/BType.lean ====
section
/-! DEFINITION. The meanings of the B-type instructions (45_btype.md): nothing is compared, no target is computed; the text is
`rs1, rs2, imm` with the byte offset (R121). Flags: none. Exceptions: none. -/

namespace Sys2Proof.Machine

/-- BEQ (45_btype.md R122). -/
def execBeq (rs1 rs2 : RegIndex) (imm : Int) (s : State) : Result :=
  deliver .BEQ (.bType 0b1100011 0b000 rs1 rs2 imm) (textTwoRegsImm s.params.sep "BEQ" rs1 rs2 imm) s

/-- BNE (45_btype.md R123). -/
def execBne (rs1 rs2 : RegIndex) (imm : Int) (s : State) : Result :=
  deliver .BNE (.bType 0b1100011 0b001 rs1 rs2 imm) (textTwoRegsImm s.params.sep "BNE" rs1 rs2 imm) s

/-- BLT (45_btype.md R124). -/
def execBlt (rs1 rs2 : RegIndex) (imm : Int) (s : State) : Result :=
  deliver .BLT (.bType 0b1100011 0b100 rs1 rs2 imm) (textTwoRegsImm s.params.sep "BLT" rs1 rs2 imm) s

/-- BGE (45_btype.md R125). -/
def execBge (rs1 rs2 : RegIndex) (imm : Int) (s : State) : Result :=
  deliver .BGE (.bType 0b1100011 0b101 rs1 rs2 imm) (textTwoRegsImm s.params.sep "BGE" rs1 rs2 imm) s

/-- BLTU (45_btype.md R126). -/
def execBltu (rs1 rs2 : RegIndex) (imm : Int) (s : State) : Result :=
  deliver .BLTU (.bType 0b1100011 0b110 rs1 rs2 imm) (textTwoRegsImm s.params.sep "BLTU" rs1 rs2 imm) s

/-- BGEU (45_btype.md R127). -/
def execBgeu (rs1 rs2 : RegIndex) (imm : Int) (s : State) : Result :=
  deliver .BGEU (.bType 0b1100011 0b111 rs1 rs2 imm) (textTwoRegsImm s.params.sep "BGEU" rs1 rs2 imm) s

end Sys2Proof.Machine
end

