-- ==== Sys2Proof/Machine/Loads.lean ====
section
/-! DEFINITION. The meanings of JALR and the loads (43_itype.md R93 to R101): no target, link value or address is computed and
no memory is read. Flags: none. Exceptions: none. -/

namespace Sys2Proof.Machine

/-- JALR (43_itype.md R94): any `funct3`, reported and not printed (30_encoding.md R56). -/
def execJalr (rd : RegIndex) (funct3 : Funct3) (rs1 : RegIndex) (imm : Int) (s : State) : Result :=
  deliver .JALR (.iType 0b1100111 rd funct3 rs1 imm) (textTwoRegsImm s.params.sep "JALR" rd rs1 imm) s

/-- LB (43_itype.md R96). -/
def execLb (rd rs1 : RegIndex) (imm : Int) (s : State) : Result :=
  deliver .LB (.iType 0b0000011 rd 0b000 rs1 imm) (textBaseOffset s.params.sep "LB" rd imm rs1) s

/-- LH (43_itype.md R97). -/
def execLh (rd rs1 : RegIndex) (imm : Int) (s : State) : Result :=
  deliver .LH (.iType 0b0000011 rd 0b001 rs1 imm) (textBaseOffset s.params.sep "LH" rd imm rs1) s

/-- LW (43_itype.md R98). -/
def execLw (rd rs1 : RegIndex) (imm : Int) (s : State) : Result :=
  deliver .LW (.iType 0b0000011 rd 0b010 rs1 imm) (textBaseOffset s.params.sep "LW" rd imm rs1) s

/-- LBU (43_itype.md R99). -/
def execLbu (rd rs1 : RegIndex) (imm : Int) (s : State) : Result :=
  deliver .LBU (.iType 0b0000011 rd 0b100 rs1 imm) (textBaseOffset s.params.sep "LBU" rd imm rs1) s

/-- LHU (43_itype.md R100). -/
def execLhu (rd rs1 : RegIndex) (imm : Int) (s : State) : Result :=
  deliver .LHU (.iType 0b0000011 rd 0b101 rs1 imm) (textBaseOffset s.params.sep "LHU" rd imm rs1) s

end Sys2Proof.Machine
end

