-- ==== Sys2Proof/Machine/RType.lean ====
section
/-! DEFINITION. The meanings of the R-type instructions (42_rtype.md): each names the word, reports its record and prints
`rd, rs1, rs2`. Flags: none. Exceptions: none (R81). -/

namespace Sys2Proof.Machine

/-- ADD (42_rtype.md R82): `funct7 = 0000000`, and the zero word (`opc = .zero`, 30_encoding.md R45). -/
def execAdd (opc : ROpcode) (rd rs1 rs2 : RegIndex) (s : State) : Result :=
  deliver .ADD (.rType opc.bits rd 0b000 rs1 rs2 0b0000000) (textThreeRegs s.params.sep "ADD" rd rs1 rs2) s

/-- SUB (42_rtype.md R83): `funct7 = 0100000`. -/
def execSub (opc : ROpcode) (rd rs1 rs2 : RegIndex) (s : State) : Result :=
  deliver .SUB (.rType opc.bits rd 0b000 rs1 rs2 0b0100000) (textThreeRegs s.params.sep "SUB" rd rs1 rs2) s

/-- SLL (42_rtype.md R84): any `funct7`, reported and not printed (30_encoding.md R56). -/
def execSll (opc : ROpcode) (rd rs1 rs2 : RegIndex) (funct7 : Funct7) (s : State) : Result :=
  deliver .SLL (.rType opc.bits rd 0b001 rs1 rs2 funct7) (textThreeRegs s.params.sep "SLL" rd rs1 rs2) s

/-- SLT (42_rtype.md R85): any `funct7`, reported and not printed (30_encoding.md R56). -/
def execSlt (opc : ROpcode) (rd rs1 rs2 : RegIndex) (funct7 : Funct7) (s : State) : Result :=
  deliver .SLT (.rType opc.bits rd 0b010 rs1 rs2 funct7) (textThreeRegs s.params.sep "SLT" rd rs1 rs2) s

/-- SLTU (42_rtype.md R86): any `funct7`, reported and not printed (30_encoding.md R56). -/
def execSltu (opc : ROpcode) (rd rs1 rs2 : RegIndex) (funct7 : Funct7) (s : State) : Result :=
  deliver .SLTU (.rType opc.bits rd 0b011 rs1 rs2 funct7) (textThreeRegs s.params.sep "SLTU" rd rs1 rs2) s

/-- XOR (42_rtype.md R87): any `funct7`, reported and not printed (30_encoding.md R56). -/
def execXor (opc : ROpcode) (rd rs1 rs2 : RegIndex) (funct7 : Funct7) (s : State) : Result :=
  deliver .XOR (.rType opc.bits rd 0b100 rs1 rs2 funct7) (textThreeRegs s.params.sep "XOR" rd rs1 rs2) s

/-- SRL (42_rtype.md R88): `funct7 = 0000000`. -/
def execSrl (opc : ROpcode) (rd rs1 rs2 : RegIndex) (s : State) : Result :=
  deliver .SRL (.rType opc.bits rd 0b101 rs1 rs2 0b0000000) (textThreeRegs s.params.sep "SRL" rd rs1 rs2) s

/-- SRA (42_rtype.md R89): `funct7 = 0100000`. -/
def execSra (opc : ROpcode) (rd rs1 rs2 : RegIndex) (s : State) : Result :=
  deliver .SRA (.rType opc.bits rd 0b101 rs1 rs2 0b0100000) (textThreeRegs s.params.sep "SRA" rd rs1 rs2) s

/-- OR (42_rtype.md R90): any `funct7`, reported and not printed (30_encoding.md R56). -/
def execOr (opc : ROpcode) (rd rs1 rs2 : RegIndex) (funct7 : Funct7) (s : State) : Result :=
  deliver .OR (.rType opc.bits rd 0b110 rs1 rs2 funct7) (textThreeRegs s.params.sep "OR" rd rs1 rs2) s

/-- AND (42_rtype.md R91): any `funct7`, reported and not printed (30_encoding.md R56). -/
def execAnd (opc : ROpcode) (rd rs1 rs2 : RegIndex) (funct7 : Funct7) (s : State) : Result :=
  deliver .AND (.rType opc.bits rd 0b111 rs1 rs2 funct7) (textThreeRegs s.params.sep "AND" rd rs1 rs2) s

end Sys2Proof.Machine
end

