-- ==== Sys2Proof/Machine/SType.lean ====
section
/-! DEFINITION. The meanings of the S-type instructions (44_stype.md): nothing is stored, no address is formed; the text is
`rs2, imm(rs1)` (R116). Flags: none. Exceptions: none. -/

namespace Sys2Proof.Machine

/-- SB (44_stype.md R117). -/
def execSb (rs1 rs2 : RegIndex) (imm : Int) (s : State) : Result :=
  deliver .SB (.sType 0b0100011 0b000 rs1 rs2 imm) (textBaseOffset s.params.sep "SB" rs2 imm rs1) s

/-- SH (44_stype.md R118). -/
def execSh (rs1 rs2 : RegIndex) (imm : Int) (s : State) : Result :=
  deliver .SH (.sType 0b0100011 0b001 rs1 rs2 imm) (textBaseOffset s.params.sep "SH" rs2 imm rs1) s

/-- SW (44_stype.md R119). -/
def execSw (rs1 rs2 : RegIndex) (imm : Int) (s : State) : Result :=
  deliver .SW (.sType 0b0100011 0b010 rs1 rs2 imm) (textBaseOffset s.params.sep "SW" rs2 imm rs1) s

end Sys2Proof.Machine
end

