-- ==== Sys2Proof/Machine/System.lean ====
section
/-! DEFINITION. The meanings of the system instructions (43_itype.md R113, R114): the block names the word and raises nothing.
`rd`, `funct3`, `rs1` are reported and not printed. -/

namespace Sys2Proof.Machine

/-- ECALL (43_itype.md R113): "it raises no environment call". -/
def execEcall (rd : RegIndex) (funct3 : Funct3) (rs1 : RegIndex) (s : State) : Result :=
  deliver .ECALL (.iType 0b1110011 rd funct3 rs1 0) "ECALL" s

/-- EBREAK (43_itype.md R114): "no breakpoint is raised". -/
def execEbreak (rd : RegIndex) (funct3 : Funct3) (rs1 : RegIndex) (s : State) : Result :=
  deliver .EBREAK (.iType 0b1110011 rd funct3 rs1 1) "EBREAK" s

end Sys2Proof.Machine
end

