-- ==== Sys2Proof/Machine/Terminals.lean ====
section
/-! DEFINITION. The terminal variants and the words that are no instruction (47_fence_invalid.md). -/

namespace Sys2Proof.Machine

/-- FENCE (47_fence_invalid.md R134): the record keeps the opcode only; the block orders nothing (20_memory.md R34). -/
def execFence (s : State) : Result := deliver .FENCE (.fence 0b0001111) "FENCE" s

/-- A word that no row of the table names (30_encoding.md R54; 47_fence_invalid.md R135): `UNKNOWN` and the
placeholder, beside the record the primary dispatch gave. Not a fault (60_exceptions.md R147, R154). -/
def execUnrecognised (record : Decoded) (s : State) : Result := deliver .UNKNOWN record invalidText s

end Sys2Proof.Machine
end

