-- ==== Sys2Proof/Machine/UJType.lean ====
section
/-! DEFINITION. The meanings of the U-type and J-type instructions (46_utype_jtype.md): the unshifted 20-bit value and the byte
offset are printed, nothing is added to a pc (R129, R132). Flags: none. Exceptions: none. -/

namespace Sys2Proof.Machine

/-- LUI (46_utype_jtype.md R130). -/
def execLui (rd : RegIndex) (imm : Int) (s : State) : Result :=
  deliver .LUI (.uType 0b0110111 rd imm) (textRegImm s.params.sep "LUI" rd imm) s

/-- AUIPC (46_utype_jtype.md R131). -/
def execAuipc (rd : RegIndex) (imm : Int) (s : State) : Result :=
  deliver .AUIPC (.uType 0b0010111 rd imm) (textRegImm s.params.sep "AUIPC" rd imm) s

/-- JAL (46_utype_jtype.md R133). -/
def execJal (rd : RegIndex) (imm : Int) (s : State) : Result :=
  deliver .JAL (.jType 0b1101111 rd imm) (textRegImm s.params.sep "JAL" rd imm) s

end Sys2Proof.Machine
end

