-- ==== Sys2Proof/Machine/Dispatch.lean ====
section
/-! DEFINITION. The dispatch from an instruction to its meaning, total on every term (DESIGN CHOICE, log entry 13). -/

namespace Sys2Proof.Machine

def exec (i : Instr) (s : State) : Host.Outcome State Fault Refusal :=
  match i with
  | .add opc rd rs1 rs2 => Sys2Proof.Machine.execAdd opc rd rs1 rs2 s
  | .sub opc rd rs1 rs2 => Sys2Proof.Machine.execSub opc rd rs1 rs2 s
  | .sll opc rd rs1 rs2 funct7 => Sys2Proof.Machine.execSll opc rd rs1 rs2 funct7 s
  | .slt opc rd rs1 rs2 funct7 => Sys2Proof.Machine.execSlt opc rd rs1 rs2 funct7 s
  | .sltu opc rd rs1 rs2 funct7 => Sys2Proof.Machine.execSltu opc rd rs1 rs2 funct7 s
  | .xor opc rd rs1 rs2 funct7 => Sys2Proof.Machine.execXor opc rd rs1 rs2 funct7 s
  | .srl opc rd rs1 rs2 => Sys2Proof.Machine.execSrl opc rd rs1 rs2 s
  | .sra opc rd rs1 rs2 => Sys2Proof.Machine.execSra opc rd rs1 rs2 s
  | .or opc rd rs1 rs2 funct7 => Sys2Proof.Machine.execOr opc rd rs1 rs2 funct7 s
  | .and opc rd rs1 rs2 funct7 => Sys2Proof.Machine.execAnd opc rd rs1 rs2 funct7 s
  | .jalr rd funct3 rs1 imm => Sys2Proof.Machine.execJalr rd funct3 rs1 imm s
  | .lb rd rs1 imm => Sys2Proof.Machine.execLb rd rs1 imm s
  | .lh rd rs1 imm => Sys2Proof.Machine.execLh rd rs1 imm s
  | .lw rd rs1 imm => Sys2Proof.Machine.execLw rd rs1 imm s
  | .lbu rd rs1 imm => Sys2Proof.Machine.execLbu rd rs1 imm s
  | .lhu rd rs1 imm => Sys2Proof.Machine.execLhu rd rs1 imm s
  | .addi rd rs1 imm => Sys2Proof.Machine.execAddi rd rs1 imm s
  | .slti rd rs1 imm => Sys2Proof.Machine.execSlti rd rs1 imm s
  | .sltiu rd rs1 imm => Sys2Proof.Machine.execSltiu rd rs1 imm s
  | .xori rd rs1 imm => Sys2Proof.Machine.execXori rd rs1 imm s
  | .ori rd rs1 imm => Sys2Proof.Machine.execOri rd rs1 imm s
  | .andi rd rs1 imm => Sys2Proof.Machine.execAndi rd rs1 imm s
  | .slli rd rs1 imm => Sys2Proof.Machine.execSlli rd rs1 imm s
  | .srli rd rs1 imm => Sys2Proof.Machine.execSrli rd rs1 imm s
  | .srai rd rs1 imm => Sys2Proof.Machine.execSrai rd rs1 imm s
  | .ecall rd funct3 rs1 => Sys2Proof.Machine.execEcall rd funct3 rs1 s
  | .ebreak rd funct3 rs1 => Sys2Proof.Machine.execEbreak rd funct3 rs1 s
  | .sb rs1 rs2 imm => Sys2Proof.Machine.execSb rs1 rs2 imm s
  | .sh rs1 rs2 imm => Sys2Proof.Machine.execSh rs1 rs2 imm s
  | .sw rs1 rs2 imm => Sys2Proof.Machine.execSw rs1 rs2 imm s
  | .beq rs1 rs2 imm => Sys2Proof.Machine.execBeq rs1 rs2 imm s
  | .bne rs1 rs2 imm => Sys2Proof.Machine.execBne rs1 rs2 imm s
  | .blt rs1 rs2 imm => Sys2Proof.Machine.execBlt rs1 rs2 imm s
  | .bge rs1 rs2 imm => Sys2Proof.Machine.execBge rs1 rs2 imm s
  | .bltu rs1 rs2 imm => Sys2Proof.Machine.execBltu rs1 rs2 imm s
  | .bgeu rs1 rs2 imm => Sys2Proof.Machine.execBgeu rs1 rs2 imm s
  | .lui rd imm => Sys2Proof.Machine.execLui rd imm s
  | .auipc rd imm => Sys2Proof.Machine.execAuipc rd imm s
  | .jal rd imm => Sys2Proof.Machine.execJal rd imm s
  | .fence => Sys2Proof.Machine.execFence s

end Sys2Proof.Machine
end

