-- ==== Sys2Proof/Machine/Evaluate.lean ====
section
/-! DEFINITION. The evaluation of one word by the machine (70_reset_and_hazards.md R160), as the step calls it. -/

namespace Sys2Proof.Machine

/-- The meaning of the instruction the word stands for, or, for a word that is none, the `UNKNOWN` output beside the
record of the primary dispatch (30_encoding.md R54). Called with the word already taken. -/
def evalWord (w : Word) (s : State) : Result :=
  match decodeInstr s.params w with
  | .ok i    => exec i s
  | .error _ => execUnrecognised (decode s.params w) s

end Sys2Proof.Machine
end

