-- ==== Sys2Proof/Machine/Step.lean ====
section
/-! DEFINITION. One step: one evaluation of the block on the word the caller presents (70_reset_and_hazards.md
R160). -/

namespace Sys2Proof.Machine

/-- Take the next word and evaluate it; with no word left the run is over. -/
def step (s : State) : Host.Outcome State Fault Refusal :=
  match takeWord s with
  | none         => .refused .noWordPresented
  | some (w, s') => evalWord w s'

/-- The caller presents the word, its bits numbered from the least significant (00_scope.md R8), as the next one. -/
def State.withFetchWord (s : State) (nbits w : Nat) : State := presentWord (BitVec.ofNat 32 (w % 2 ^ nbits)) s

end Sys2Proof.Machine
end

