-- ==== Sys2Proof/Machine/Formatter.lean ====
section
/-! DEFINITION. The source's third component as the spec separates it (48_formatter.md): the operation select
`classify`, the text view `format`, and one whole evaluation of the block (70_reset_and_hazards.md R160). -/

namespace Sys2Proof.Machine

/-- 42_rtype.md, pseudocode of the family; the opcode is not read (R81). -/
def classifyR (funct3 : Funct3) (funct7 : Funct7) : Op :=
  match funct3 with
  | 0b000 => if funct7 = 0b0000000 then .ADD else if funct7 = 0b0100000 then .SUB else .UNKNOWN
  | 0b001 => .SLL
  | 0b010 => .SLT
  | 0b011 => .SLTU
  | 0b100 => .XOR
  | 0b101 => if funct7 = 0b0000000 then .SRL else if funct7 = 0b0100000 then .SRA else .UNKNOWN
  | 0b110 => .OR
  | 0b111 => .AND

/-- The key of the `101` row of ALU-immediate, an integer under either value of `SHIFT_IMM_MATCH` (43_itype.md,
pseudocode of the family). -/
def shiftKey (p : Params) (imm : Int) : Int :=
  match p.shift with
  | .funct7Field => (immUpper imm).toNat
  | .wholeImm    => imm

/-- 43_itype.md, pseudocode of the family. -/
def classifyI (p : Params) (opcode : Opcode) (funct3 : Funct3) (imm : Int) : Op :=
  if opcode = 0b1100111 then .JALR
  else if opcode = 0b0000011 then
    match funct3 with
    | 0b000 => .LB
    | 0b001 => .LH
    | 0b010 => .LW
    | 0b100 => .LBU
    | 0b101 => .LHU
    | 0b011 | 0b110 | 0b111 => .UNKNOWN
  else if opcode = 0b0010011 then
    match funct3 with
    | 0b000 => .ADDI
    | 0b010 => .SLTI
    | 0b011 => .SLTIU
    | 0b100 => .XORI
    | 0b110 => .ORI
    | 0b111 => .ANDI
    | 0b001 => .SLLI
    | 0b101 => if shiftKey p imm = 0 then .SRLI else if shiftKey p imm = 0x20 then .SRAI else .UNKNOWN
  else if opcode = 0b1110011 then
    if imm = 0 then .ECALL else if imm = 1 then .EBREAK else .UNKNOWN
  else .UNKNOWN

/-- 44_stype.md, pseudocode of the family. -/
def classifyS (funct3 : Funct3) : Op :=
  match funct3 with
  | 0b000 => .SB
  | 0b001 => .SH
  | 0b010 => .SW
  | 0b011 | 0b100 | 0b101 | 0b110 | 0b111 => .UNKNOWN

/-- 45_btype.md, pseudocode of the family. -/
def classifyB (funct3 : Funct3) : Op :=
  match funct3 with
  | 0b000 => .BEQ
  | 0b001 => .BNE
  | 0b100 => .BLT
  | 0b101 => .BGE
  | 0b110 => .BLTU
  | 0b111 => .BGEU
  | 0b010 | 0b011 => .UNKNOWN

/-- 46_utype_jtype.md, pseudocode of the two families. -/
def classifyU (opcode : Opcode) : Op :=
  if opcode = 0b0110111 then .LUI else if opcode = 0b0010111 then .AUIPC else .UNKNOWN

/-- The operation select (48_formatter.md R137, R138): total on every record, also on those `decode` never returns
(R141). -/
def classify (p : Params) : Decoded → Op
  | .rType _ _ funct3 _ _ funct7     => classifyR funct3 funct7
  | .iType opcode _ funct3 _ imm     => classifyI p opcode funct3 imm
  | .sType _ funct3 _ _ _            => classifyS funct3
  | .bType _ funct3 _ _ _            => classifyB funct3
  | .uType opcode _ _                => classifyU opcode
  | .jType _ _ _                     => .JAL
  | .fence _                         => .FENCE
  | .invalid                         => .UNKNOWN

/-- `name(op)`: the printed mnemonic; `SLTIU` is printed `SLTU` (43_itype.md R105; 48_formatter.md R142). -/
def opName : Op → String
  | .ADD => "ADD" | .SUB => "SUB" | .SLL => "SLL" | .SLT => "SLT" | .SLTU => "SLTU"
  | .XOR => "XOR" | .SRL => "SRL" | .SRA => "SRA" | .OR => "OR" | .AND => "AND"
  | .JALR => "JALR" | .LB => "LB" | .LH => "LH" | .LW => "LW" | .LBU => "LBU" | .LHU => "LHU"
  | .ADDI => "ADDI" | .SLTI => "SLTI" | .SLTIU => "SLTU" | .XORI => "XORI" | .ORI => "ORI"
  | .ANDI => "ANDI" | .SLLI => "SLLI" | .SRLI => "SRLI" | .SRAI => "SRAI"
  | .ECALL => "ECALL" | .EBREAK => "EBREAK"
  | .SB => "SB" | .SH => "SH" | .SW => "SW"
  | .BEQ => "BEQ" | .BNE => "BNE" | .BLT => "BLT" | .BGE => "BGE" | .BLTU => "BLTU" | .BGEU => "BGEU"
  | .LUI => "LUI" | .AUIPC => "AUIPC" | .JAL => "JAL" | .FENCE => "FENCE"
  | .UNKNOWN => invalidText

/-- `render` (48_formatter.md R142), one arm per operand class. An `op` fixes the tag of its record; for a pair that
`classify` never makes, the placeholder (DESIGN CHOICE, log entry 8). -/
def render (sep : TextSeparator) (r : Decoded) (op : Op) : String :=
  match op with
  | .UNKNOWN => invalidText
  | .FENCE | .ECALL | .EBREAK => opName op
  | .ADD | .SUB | .SLL | .SLT | .SLTU | .XOR | .SRL | .SRA | .OR | .AND =>
    match r with
    | .rType _ rd _ rs1 rs2 _ => textThreeRegs sep (opName op) rd rs1 rs2
    | _ => invalidText
  | .JALR | .ADDI | .SLTI | .SLTIU | .XORI | .ORI | .ANDI =>
    match r with
    | .iType _ rd _ rs1 imm => textTwoRegsImm sep (opName op) rd rs1 imm
    | _ => invalidText
  | .SLLI | .SRLI | .SRAI =>
    match r with
    | .iType _ rd _ rs1 imm => textTwoRegsImm sep (opName op) rd rs1 (shamt imm)
    | _ => invalidText
  | .LB | .LH | .LW | .LBU | .LHU =>
    match r with
    | .iType _ rd _ rs1 imm => textBaseOffset sep (opName op) rd imm rs1
    | _ => invalidText
  | .SB | .SH | .SW =>
    match r with
    | .sType _ _ rs1 rs2 imm => textBaseOffset sep (opName op) rs2 imm rs1
    | _ => invalidText
  | .BEQ | .BNE | .BLT | .BGE | .BLTU | .BGEU =>
    match r with
    | .bType _ _ rs1 rs2 imm => textTwoRegsImm sep (opName op) rs1 rs2 imm
    | _ => invalidText
  | .LUI | .AUIPC =>
    match r with
    | .uType _ rd imm => textRegImm sep (opName op) rd imm
    | _ => invalidText
  | .JAL =>
    match r with
    | .jType _ rd imm => textRegImm sep (opName op) rd imm
    | _ => invalidText

/-- `format(r) = render(r, classify(r))` (48_formatter.md R142): total, always a string (R144). -/
def format (p : Params) (r : Decoded) : String := render p.sep r (classify p r)

/-- One evaluation of the block (70_reset_and_hazards.md R160): a pure function of the word and the parameters. -/
def evaluate (p : Params) (w : Word) : Output where
  record := decode p w
  op := classify p (decode p w)
  legal := legalOf (classify p (decode p w))
  text := format p (decode p w)

end Sys2Proof.Machine
end

