-- ==== Sys2Proof/Machine/Ports.lean ====
section
/-! DEFINITION. The port-level view of an output (10_state.md R22 to R24): the record flattened to wires. -/

namespace Sys2Proof.Machine

/-- The output ports of 10_state.md R23 beside `op`, whose numeric encoding is not fixed. `none` is a port the active
variant does not drive: "any value, never to be read", so it has no value here (R16, R23; DESIGN CHOICE, log entry 7). -/
structure Ports where
  tag    : BitVec 3
  opcode : Option (BitVec 7)
  rd     : Option (BitVec 5)
  funct3 : Option (BitVec 3)
  rs1    : Option (BitVec 5)
  rs2    : Option (BitVec 5)
  funct7 : Option (BitVec 7)
  imm    : Option (BitVec 32)
  legal  : Bool
  deriving DecidableEq, Repr

/-- The numeric encoding of the tag (10_state.md R24). -/
def tagBits : Tag → BitVec 3
  | .R => 0 | .I => 1 | .S => 2 | .B => 3 | .U => 4 | .J => 5 | .FENCE => 6 | .INVALID => 7

/-- The wires for one output; an immediate is driven as `tc_32(imm)` (10_state.md R22). -/
def Output.ports (o : Output) : Ports :=
  let undriven : Ports := ⟨tagBits o.record.tag, none, none, none, none, none, none, none, o.legal⟩
  match o.record with
  | .rType opcode rd funct3 rs1 rs2 funct7 =>
    { undriven with
      opcode := some opcode, rd := some rd, funct3 := some funct3, rs1 := some rs1, rs2 := some rs2,
      funct7 := some funct7 }
  | .iType opcode rd funct3 rs1 imm =>
    { undriven with
      opcode := some opcode, rd := some rd, funct3 := some funct3, rs1 := some rs1, imm := some (tc32 imm) }
  | .sType opcode funct3 rs1 rs2 imm =>
    { undriven with
      opcode := some opcode, funct3 := some funct3, rs1 := some rs1, rs2 := some rs2, imm := some (tc32 imm) }
  | .bType opcode funct3 rs1 rs2 imm =>
    { undriven with
      opcode := some opcode, funct3 := some funct3, rs1 := some rs1, rs2 := some rs2, imm := some (tc32 imm) }
  | .uType opcode rd imm => { undriven with opcode := some opcode, rd := some rd, imm := some (tc32 imm) }
  | .jType opcode rd imm => { undriven with opcode := some opcode, rd := some rd, imm := some (tc32 imm) }
  | .fence opcode => { undriven with opcode := some opcode }
  | .invalid => undriven

end Sys2Proof.Machine
end

