-- ==== Sys2Proof/Safety.lean ====
section
/-! DEFINITION. The terms the claims use: what a consistent output is, the invariant of a run, and the outcome of a
step that delivers one output and changes nothing else. -/

namespace Sys2Proof.Machine

/-- The output is what the block may show under the parameters: every field of the record in its range (10_state.md
R15), `op` the operation select of the record (48_formatter.md R138), `legal` exactly `op != UNKNOWN` (R139), and the
text the record's text view (R142). -/
abbrev Output.Consistent (p : Params) (o : Output) : Prop :=
  o.record.wellFormed = true ∧ o.op = classify p o.record ∧ (o.legal = true ↔ o.op ≠ .UNKNOWN) ∧
    o.text = format p o.record

/-- Everything the caller has read back is consistent. -/
abbrev State.Inv (s : State) : Prop := ∀ o ∈ s.results, o.Consistent s.params

/-- The run is over: the caller has no further word (70_reset_and_hazards.md R160). -/
abbrev State.RunOver (s : State) : Prop := s.pending = []

/-- The outcome `r`, reached from `s`, is a next state in which the output `o` is read back after the earlier ones and
nothing else has changed: not a parameter, not a word still to be presented, not an earlier output. -/
abbrev Delivers (s : State) (r : Result) (o : Output) : Prop :=
  r = .next { params := s.params, pending := s.pending, results := s.results ++ [o] }

end Sys2Proof.Machine
end

