-- ==== Sys2Proof/Certificates/Slice0/Obligations.lean ====
section
/-! DEFINITION. The statements for the provers. Every statement quantifies over the parameters (or over states that
hold any), so both values of each open parameter are covered. The fields of a word are read here by their bit numbers,
as the rules write them, not through the model's own extractor. -/

namespace Sys2Proof.Spec

open Sys2Proof.Machine

/-! ### The fields of a word, by the bit ranges of 30_encoding.md R38 and R47 to R51 -/

abbrev opcode (w : Word) : Opcode := w.extractLsb 6 0
abbrev rd (w : Word) : RegIndex := w.extractLsb 11 7
abbrev funct3 (w : Word) : Funct3 := w.extractLsb 14 12
abbrev rs1 (w : Word) : RegIndex := w.extractLsb 19 15
abbrev rs2 (w : Word) : RegIndex := w.extractLsb 24 20
abbrev funct7 (w : Word) : Funct7 := w.extractLsb 31 25
abbrev patI (w : Word) : BitVec 12 := w.extractLsb 31 20
abbrev patS (w : Word) : BitVec 12 := w.extractLsb 31 25 ++ w.extractLsb 11 7
abbrev patB (w : Word) : BitVec 13 :=
  w.extractLsb 31 31 ++ w.extractLsb 7 7 ++ w.extractLsb 30 25 ++ w.extractLsb 11 8 ++ 0#1
abbrev patU (w : Word) : BitVec 20 := w.extractLsb 31 12
abbrev patJ (w : Word) : BitVec 21 :=
  w.extractLsb 31 31 ++ w.extractLsb 19 12 ++ w.extractLsb 20 20 ++ w.extractLsb 30 21 ++ 0#1

/-- The records of the six formats for a word (30_encoding.md R39 to R42). -/
abbrev recR (w : Word) : Decoded := .rType (opcode w) (rd w) (funct3 w) (rs1 w) (rs2 w) (funct7 w)
abbrev recI (w : Word) : Decoded := .iType (opcode w) (rd w) (funct3 w) (rs1 w) (patI w).toInt
abbrev recS (w : Word) : Decoded := .sType (opcode w) (funct3 w) (rs1 w) (rs2 w) (patS w).toInt
abbrev recB (w : Word) : Decoded := .bType (opcode w) (funct3 w) (rs1 w) (rs2 w) (patB w).toInt
abbrev recU (w : Word) : Decoded := .uType (opcode w) (rd w) (patU w).toInt
abbrev recJ (w : Word) : Decoded := .jType (opcode w) (rd w) (patJ w).toInt

/-- The eleven opcodes of 30_encoding.md R43. -/
abbrev listedOpcodes : List Opcode :=
  [0b0110111, 0b0010111, 0b1101111, 0b1100111, 0b0000011, 0b0010011, 0b1110011, 0b1100011, 0b0100011, 0b0110011,
    0b0001111]

/-! ### The text shapes of 30_encoding.md R61 -/

abbrev text3 (p : Params) (name : String) (a b c : RegIndex) : String :=
  name ++ " x" ++ dec a.toNat ++ separator p.sep ++ "x" ++ dec b.toNat ++ separator p.sep ++ "x" ++ dec c.toNat
abbrev text2Imm (p : Params) (name : String) (a b : RegIndex) (imm : Int) : String :=
  name ++ " x" ++ dec a.toNat ++ separator p.sep ++ "x" ++ dec b.toNat ++ separator p.sep ++ dec imm
abbrev textBase (p : Params) (name : String) (a : RegIndex) (imm : Int) (b : RegIndex) : String :=
  name ++ " x" ++ dec a.toNat ++ separator p.sep ++ dec imm ++ "(x" ++ dec b.toNat ++ ")"
abbrev text1Imm (p : Params) (name : String) (a : RegIndex) (imm : Int) : String :=
  name ++ " x" ++ dec a.toNat ++ separator p.sep ++ dec imm

/-- Under the parameters the block's output for the word is `o`: by the spec's algorithm (`evaluate`: 41_decoder.md
R69, 48_formatter.md R138, R142), and by a step of the machine, which hands `o` to the caller and changes nothing
else (the lists beside the block are the model's choice, log entry 1). -/
abbrev Gives (p : Params) (w : Word) (o : Output) : Prop :=
  evaluate p w = o ∧
    ∀ s rest, s.params = p → s.pending = w :: rest →
      step s = .next { params := p, pending := rest, results := s.results ++ [o] }

/-- Every word that the row matches gives the output. -/
abbrev Row (p : Params) (pattern mask : Word) (o : Word → Output) : Prop :=
  ∀ w, w &&& mask = pattern → Gives p w (o w)

/-- A word the table does not name gives the record, `UNKNOWN` and the placeholder (30_encoding.md R54). -/
abbrev unknown (r : Decoded) : Output := ⟨r, .UNKNOWN, false, "Invalid instruction"⟩

end Sys2Proof.Spec

open Sys2Proof Sys2Proof.Machine Sys2Proof.Spec

/-! ### Field Extractor and immediates -/

/-- 40_field_extractor.md R63: the slice is the quotient by `2^off` modulo `2^n`, bit `k` of it is bit `off + k` of the
word, and the worked examples of the rule. -/
def Obligations.ExtractIsTheSlice : Prop :=
  (∀ (w : Word) (off n : Nat) (h : 1 ≤ n ∧ off + n ≤ 32),
    (extract w off n h).toNat = w.toNat / 2 ^ off % 2 ^ n ∧ (extract w off n h).toNat < 2 ^ n ∧
      ∀ k, k < n → (extract w off n h).getLsbD k = w.getLsbD (off + k)) ∧
  extract 0x40000033 25 7 = 0x20 ∧ extract 0x40000033 0 7 = 0x33

/-- The laws of 95_test_vectors.md section 2.1: the widest slice is the word, a slice is a slice of the shifted word,
and a slice splits into a low and a high part. -/
def Obligations.ExtractLaws : Prop :=
  (∀ w : Word, extract w 0 32 = w) ∧
  (∀ (w : Word) (off n : Nat) (h : 1 ≤ n ∧ off + n ≤ 32),
    (extract w off n h).toNat = (extract (w >>> off) 0 n ⟨h.1, by omega⟩).toNat) ∧
  (∀ (w : Word) (off a b : Nat) (ha : 1 ≤ a) (hb : 1 ≤ b) (h : off + (a + b) ≤ 32),
    (extract w off (a + b) ⟨by omega, h⟩).toNat =
      (extract w off a ⟨ha, by omega⟩).toNat + 2 ^ a * (extract w (off + a) b ⟨hb, by omega⟩).toNat)

/-- 30_encoding.md R47 to R51: each immediate as an integer in its range, the I and U immediates also as the arithmetic
shifts of the word, and the examples of the rules. -/
def Obligations.ImmediateValues : Prop :=
  (∀ w : Word,
    (immI w = (patI w).toInt ∧ immI w = w.toInt / 2 ^ 20 ∧ -2048 ≤ immI w ∧ immI w ≤ 2047) ∧
    (immS w = (patS w).toInt ∧ -2048 ≤ immS w ∧ immS w ≤ 2047) ∧
    (immB w = (patB w).toInt ∧ immB w % 2 = 0 ∧ -4096 ≤ immB w ∧ immB w ≤ 4094) ∧
    (immU w = (patU w).toInt ∧ immU w = w.toInt / 2 ^ 12 ∧ -524288 ≤ immU w ∧ immU w ≤ 524287) ∧
    (immJ w = (patJ w).toInt ∧ immJ w % 2 = 0 ∧ -1048576 ≤ immJ w ∧ immJ w ≤ 1048574)) ∧
  (immI 0xFFF00013 = -1 ∧ immI 0x7FF00013 = 2047 ∧ immI 0x80000013 = -2048 ∧ immS 0xFE000FA3 = -1 ∧
    immB 0xFE000EE3 = -4 ∧ immU 0xFFFFF0B7 = -1 ∧ immU 0x000010B7 = 1 ∧ immJ 0xFFFFF06F = -2 ∧
    tc32 (immJ 0xFFFFF06F) = 0xFFFFFFFE)

/-- 30_encoding.md R52, its part (c) marked by the spec as derived from R47 to R51: (a) an immediate is negative exactly when `w[31] = 1` and its pattern's low `N` bits are the
field bits, (b) B and J immediates are even, (c) the immediate and the word's immediate positions determine one
another, and every value of the range is reached. -/
def Obligations.ImmediateProperties : Prop :=
  (∀ w : Word,
    (immI w < 0 ↔ w.getLsbD 31 = true) ∧ (immS w < 0 ↔ w.getLsbD 31 = true) ∧ (immB w < 0 ↔ w.getLsbD 31 = true) ∧
    (immU w < 0 ↔ w.getLsbD 31 = true) ∧ (immJ w < 0 ↔ w.getLsbD 31 = true) ∧
    (tc32 (immI w)).toNat % 2 ^ 12 = (patI w).toNat ∧ (tc32 (immS w)).toNat % 2 ^ 12 = (patS w).toNat ∧
    (tc32 (immB w)).toNat % 2 ^ 13 = (patB w).toNat ∧ (tc32 (immU w)).toNat % 2 ^ 20 = (patU w).toNat ∧
    (tc32 (immJ w)).toNat % 2 ^ 21 = (patJ w).toNat ∧
    immB w % 2 = 0 ∧ immJ w % 2 = 0) ∧
  (∀ w u : Word,
    (immI w = immI u ↔ w &&& 0xFFF00000 = u &&& 0xFFF00000) ∧ (immS w = immS u ↔ w &&& 0xFE000F80 = u &&& 0xFE000F80) ∧
    (immB w = immB u ↔ w &&& 0xFE000F80 = u &&& 0xFE000F80) ∧ (immU w = immU u ↔ w &&& 0xFFFFF000 = u &&& 0xFFFFF000) ∧
    (immJ w = immJ u ↔ w &&& 0xFFFFF000 = u &&& 0xFFFFF000)) ∧
  (∀ i : Int,
    (-2048 ≤ i ∧ i ≤ 2047 → (∃ w, immI w = i) ∧ ∃ w, immS w = i) ∧
    (-4096 ≤ i ∧ i ≤ 4094 ∧ i % 2 = 0 → ∃ w, immB w = i) ∧
    (-524288 ≤ i ∧ i ≤ 524287 → ∃ w, immU w = i) ∧
    (-1048576 ≤ i ∧ i ≤ 1048574 ∧ i % 2 = 0 → ∃ w, immJ w = i))

/-- 30_encoding.md R46 (conflict C6; 95_test_vectors.md section 2.2): all bits of the 32-bit pattern from the format's
sign bit upwards equal `w[31]`, in every format. -/
def Obligations.SignFillsEveryHigherBit : Prop :=
  ∀ (w : Word) (k : Nat), k < 32 →
    (11 ≤ k → (tc32 (immI w)).getLsbD k = w.getLsbD 31) ∧ (11 ≤ k → (tc32 (immS w)).getLsbD k = w.getLsbD 31) ∧
    (12 ≤ k → (tc32 (immB w)).getLsbD k = w.getLsbD 31) ∧ (19 ≤ k → (tc32 (immU w)).getLsbD k = w.getLsbD 31) ∧
    (20 ≤ k → (tc32 (immJ w)).getLsbD k = w.getLsbD 31)

/-! ### Instruction Decoder -/

/-- 30_encoding.md R44, 41_decoder.md R79: the eleven opcodes are different, and the tag of a word is a function of
`w[6:0]`, but for opcode `0000000`, where it depends on the word being zero under `ZERO_WORD_ONLY`. -/
def Obligations.OpcodeSelectsTheVariant : Prop :=
  listedOpcodes.Nodup ∧
  ∀ (p : Params) (w : Word),
    ((decode p w).tag = .U ↔ opcode w = 0b0110111 ∨ opcode w = 0b0010111) ∧
    ((decode p w).tag = .J ↔ opcode w = 0b1101111) ∧
    ((decode p w).tag = .I ↔
      opcode w = 0b1100111 ∨ opcode w = 0b0000011 ∨ opcode w = 0b0010011 ∨ opcode w = 0b1110011) ∧
    ((decode p w).tag = .B ↔ opcode w = 0b1100011) ∧
    ((decode p w).tag = .S ↔ opcode w = 0b0100011) ∧
    ((decode p w).tag = .R ↔ opcode w = 0b0110011 ∨ (opcode w = 0b0000000 ∧ (w = 0 ∨ p.opc0 = .rAll))) ∧
    ((decode p w).tag = .FENCE ↔ opcode w = 0b0001111) ∧
    ((decode p w).tag = .INVALID ↔ opcode w ∉ listedOpcodes ∧ ¬(opcode w = 0b0000000 ∧ (w = 0 ∨ p.opc0 = .rAll)))

/-- 41_decoder.md R69 to R78: the record of every word, field by field. -/
def Obligations.DecodedRecordOfEveryWord : Prop :=
  ∀ (p : Params) (w : Word),
    (opcode w = 0b0110111 ∨ opcode w = 0b0010111 → decode p w = recU w) ∧
    (opcode w = 0b1101111 → decode p w = recJ w) ∧
    (opcode w = 0b1100111 ∨ opcode w = 0b0000011 ∨ opcode w = 0b0010011 ∨ opcode w = 0b1110011 →
      decode p w = recI w) ∧
    (opcode w = 0b1100011 → decode p w = recB w) ∧
    (opcode w = 0b0100011 → decode p w = recS w) ∧
    (opcode w = 0b0110011 → decode p w = recR w) ∧
    (opcode w = 0b0001111 → decode p w = .fence 0b0001111) ∧
    (opcode w = 0b0000000 → w = 0 ∨ p.opc0 = .rAll → decode p w = recR w) ∧
    (opcode w = 0b0000000 → w ≠ 0 → p.opc0 = .zeroWordOnly → decode p w = .invalid) ∧
    (opcode w ∉ listedOpcodes → opcode w ≠ 0b0000000 → decode p w = .invalid)

/-- 30_encoding.md R45, 41_decoder.md R78: the zero word is an R-type record with every field zero under either policy,
it is ADD and prints `ADD x0 x0 x0`; any other word with opcode `0000000` is INVALID under `ZERO_WORD_ONLY` and an
R-type record with opcode 0 under `R_ALL`. -/
def Obligations.ZeroWordIsAdd : Prop :=
  (∀ p : Params, Gives p 0 ⟨.rType 0 0 0 0 0 0, .ADD, true, text3 p "ADD" 0 0 0⟩) ∧
  (∀ p : Params, p.sep = .space → format p (decode p 0) = "ADD x0 x0 x0") ∧
  (∀ (p : Params) (w : Word), opcode w = 0 → w ≠ 0 →
    (p.opc0 = .zeroWordOnly → decode p w = .invalid) ∧
    (p.opc0 = .rAll → decode p w = .rType 0 (rd w) (funct3 w) (rs1 w) (rs2 w) (funct7 w)))

/-- 41_decoder.md R80 (which the spec marks as derived from R69 to R77): for the tags R, I, S, B, U, J re-packing the fields gives the word back, so the record determines
the word; the FENCE record is one and the same for every word with its opcode, and INVALID keeps nothing. -/
def Obligations.RecordDeterminesTheWord : Prop :=
  (∀ (p : Params) (w : Word), (decode p w).tag ≠ .FENCE → (decode p w).tag ≠ .INVALID →
    (decode p w).repack = some w) ∧
  (∀ (p : Params) (w u : Word), (decode p w).tag ≠ .FENCE → (decode p w).tag ≠ .INVALID →
    decode p w = decode p u → w = u) ∧
  (∀ (p : Params) (w u : Word), (decode p w).tag = .FENCE → (decode p u).tag = .FENCE → decode p w = decode p u) ∧
  (∀ (p : Params) (w u : Word), (decode p w).tag = .INVALID → (decode p u).tag = .INVALID → decode p w = decode p u)

/-- Every field of a decoded record lies in the range 10_state.md R15 gives it. -/
def Obligations.DecodedRecordsAreInRange : Prop :=
  ∀ (p : Params) (w : Word), (decode p w).wellFormed = true

/-- Decode and encode agree: for every well-formed instruction of the table, under every parameter, decoding its word
gives it back, with every operand at every value the encoding admits. (FENCE has no operand; its word is the model's
choice, log entry 5.) -/
def Obligations.DecodeOfEncode : Prop :=
  ∀ (p : Params) (i : Instr), i.wellFormed p = true → decodeInstr p (encode i) = .ok i

/-- The other direction: a word that decodes to an instruction is that instruction's word, bit for bit, and the
instruction is well-formed; only FENCE, which keeps 7 of its 32 bits, has many words. -/
def Obligations.EncodeOfDecode : Prop :=
  ∀ (p : Params) (w : Word) (i : Instr), decodeInstr p w = .ok i →
    i.wellFormed p = true ∧ (i ≠ .fence → encode i = w) ∧ (i = .fence → opcode w = 0b0001111)

/-- A few words written out field by field from the layouts of 30_encoding.md section 2 decode to the instructions they
stand for, one a family. -/
def Obligations.WrittenOutWordsDecode : Prop :=
  decodeInstr .default (0b0100000#7 ++ 0b00010#5 ++ 0b00001#5 ++ 0b000#3 ++ 0b00011#5 ++ 0b0110011#7) =
    .ok (.sub .op 3 1 2) ∧
  decodeInstr .default (0b111111111011#12 ++ 0b00110#5 ++ 0b000#3 ++ 0b00101#5 ++ 0b0010011#7) = .ok (.addi 5 6 (-5)) ∧
  decodeInstr .default (0b000000001000#12 ++ 0b00010#5 ++ 0b010#3 ++ 0b01010#5 ++ 0b0000011#7) = .ok (.lw 10 2 8) ∧
  decodeInstr .default (0b000000000001#12 ++ 0b00000#5 ++ 0b000#3 ++ 0b00000#5 ++ 0b1110011#7) = .ok (.ebreak 0 0 0) ∧
  decodeInstr .default (0b1111111#7 ++ 0b01010#5 ++ 0b00010#5 ++ 0b010#3 ++ 0b11000#5 ++ 0b0100011#7) =
    .ok (.sw 2 10 (-8)) ∧
  decodeInstr .default (0b1#1 ++ 0b111111#6 ++ 0b00000#5 ++ 0b00101#5 ++ 0b001#3 ++ 0b1010#4 ++ 0b1#1 ++ 0b1100011#7) =
    .ok (.bne 5 0 (-12)) ∧
  decodeInstr .default (0b00010010001101000101#20 ++ 0b00101#5 ++ 0b0110111#7) = .ok (.lui 5 74565) ∧
  decodeInstr .default (0b0#1 ++ 0b0000000000#10 ++ 0b1#1 ++ 0b00000000#8 ++ 0b00001#5 ++ 0b1101111#7) =
    .ok (.jal 1 2048)

/-! ### Operation select and the instruction rules -/

/-- 42_rtype.md R81 to R92: each of the ten rows gives its record, op and text for every word it matches, whatever the
other bits; the zero word is ADD; a `000` or `101` word with another funct7 is `UNKNOWN` with its fields kept, and no
other R-type record is; the opcode is never read, funct7 only beside funct3 `000` and `101`. -/
def Obligations.RTypeRows : Prop :=
  ∀ p : Params,
  Row p 0x00000033 0xFE00707F (fun w => ⟨recR w, .ADD, true, text3 p "ADD" (rd w) (rs1 w) (rs2 w)⟩) ∧
  Row p 0x40000033 0xFE00707F (fun w => ⟨recR w, .SUB, true, text3 p "SUB" (rd w) (rs1 w) (rs2 w)⟩) ∧
  Row p 0x00001033 0x0000707F (fun w => ⟨recR w, .SLL, true, text3 p "SLL" (rd w) (rs1 w) (rs2 w)⟩) ∧
  Row p 0x00002033 0x0000707F (fun w => ⟨recR w, .SLT, true, text3 p "SLT" (rd w) (rs1 w) (rs2 w)⟩) ∧
  Row p 0x00003033 0x0000707F (fun w => ⟨recR w, .SLTU, true, text3 p "SLTU" (rd w) (rs1 w) (rs2 w)⟩) ∧
  Row p 0x00004033 0x0000707F (fun w => ⟨recR w, .XOR, true, text3 p "XOR" (rd w) (rs1 w) (rs2 w)⟩) ∧
  Row p 0x00005033 0xFE00707F (fun w => ⟨recR w, .SRL, true, text3 p "SRL" (rd w) (rs1 w) (rs2 w)⟩) ∧
  Row p 0x40005033 0xFE00707F (fun w => ⟨recR w, .SRA, true, text3 p "SRA" (rd w) (rs1 w) (rs2 w)⟩) ∧
  Row p 0x00006033 0x0000707F (fun w => ⟨recR w, .OR, true, text3 p "OR" (rd w) (rs1 w) (rs2 w)⟩) ∧
  Row p 0x00007033 0x0000707F (fun w => ⟨recR w, .AND, true, text3 p "AND" (rd w) (rs1 w) (rs2 w)⟩) ∧
  Gives p 0 ⟨recR 0, .ADD, true, text3 p "ADD" 0 0 0⟩ ∧
  (∀ w, opcode w = 0b0110011 → funct3 w = 0b000 ∨ funct3 w = 0b101 → funct7 w ≠ 0b0000000 → funct7 w ≠ 0b0100000 →
    Gives p w (unknown (recR w))) ∧
  (∀ o a f3 b c f7, classify p (.rType o a f3 b c f7) = .UNKNOWN →
    (f3 = 0b000 ∨ f3 = 0b101) ∧ f7 ≠ 0b0000000 ∧ f7 ≠ 0b0100000) ∧
  (∀ o o' a f3 b c f7, classify p (.rType o a f3 b c f7) = classify p (.rType o' a f3 b c f7)) ∧
  (∀ o a f3 b c f7 f7', f3 ≠ 0b000 → f3 ≠ 0b101 →
    classify p (.rType o a f3 b c f7) = classify p (.rType o a f3 b c f7'))

/-- 43_itype.md R94 to R101: JALR for every funct3, the five loads, and the load words that match no row. -/
def Obligations.JalrAndLoadRows : Prop :=
  ∀ p : Params,
  Row p 0x00000067 0x0000007F (fun w => ⟨recI w, .JALR, true, text2Imm p "JALR" (rd w) (rs1 w) (patI w).toInt⟩) ∧
  Row p 0x00000003 0x0000707F (fun w => ⟨recI w, .LB, true, textBase p "LB" (rd w) (patI w).toInt (rs1 w)⟩) ∧
  Row p 0x00001003 0x0000707F (fun w => ⟨recI w, .LH, true, textBase p "LH" (rd w) (patI w).toInt (rs1 w)⟩) ∧
  Row p 0x00002003 0x0000707F (fun w => ⟨recI w, .LW, true, textBase p "LW" (rd w) (patI w).toInt (rs1 w)⟩) ∧
  Row p 0x00004003 0x0000707F (fun w => ⟨recI w, .LBU, true, textBase p "LBU" (rd w) (patI w).toInt (rs1 w)⟩) ∧
  Row p 0x00005003 0x0000707F (fun w => ⟨recI w, .LHU, true, textBase p "LHU" (rd w) (patI w).toInt (rs1 w)⟩) ∧
  (∀ w, opcode w = 0b0000011 → funct3 w = 0b011 ∨ funct3 w = 0b110 ∨ funct3 w = 0b111 → Gives p w (unknown (recI w)))

/-- 43_itype.md R103 to R108: the six register-immediate rows print the whole signed immediate; SLTIU prints `SLTU`. -/
def Obligations.RegisterImmediateRows : Prop :=
  ∀ p : Params,
  Row p 0x00000013 0x0000707F (fun w => ⟨recI w, .ADDI, true, text2Imm p "ADDI" (rd w) (rs1 w) (patI w).toInt⟩) ∧
  Row p 0x00002013 0x0000707F (fun w => ⟨recI w, .SLTI, true, text2Imm p "SLTI" (rd w) (rs1 w) (patI w).toInt⟩) ∧
  Row p 0x00003013 0x0000707F (fun w => ⟨recI w, .SLTIU, true, text2Imm p "SLTU" (rd w) (rs1 w) (patI w).toInt⟩) ∧
  Row p 0x00004013 0x0000707F (fun w => ⟨recI w, .XORI, true, text2Imm p "XORI" (rd w) (rs1 w) (patI w).toInt⟩) ∧
  Row p 0x00006013 0x0000707F (fun w => ⟨recI w, .ORI, true, text2Imm p "ORI" (rd w) (rs1 w) (patI w).toInt⟩) ∧
  Row p 0x00007013 0x0000707F (fun w => ⟨recI w, .ANDI, true, text2Imm p "ANDI" (rd w) (rs1 w) (patI w).toInt⟩)

/-- 43_itype.md R102, R109 to R112, under both values of `SHIFT_IMM_MATCH`: the upper immediate is `w[31:25]` and the
shift amount `w[24:20]`, which is what the three shifts print; SLLI tests no upper immediate; SRLI and SRAI match the
rows of the parameter, whose immediates are the shift amount and `1024` plus the shift amount (or 0 and 32), and every
other `101` word is `UNKNOWN` with its fields kept; no other ALU-immediate record is. -/
def Obligations.ShiftImmediateRows : Prop :=
  ∀ p : Params,
  (∀ w, immUpper (immI w) = funct7 w ∧ shamt (immI w) = (rs2 w).toNat) ∧
  Row p 0x00001013 0x0000707F (fun w => ⟨recI w, .SLLI, true, text2Imm p "SLLI" (rd w) (rs1 w) (rs2 w).toNat⟩) ∧
  (p.shift = .funct7Field →
    Row p 0x00005013 0xFE00707F (fun w => ⟨recI w, .SRLI, true, text2Imm p "SRLI" (rd w) (rs1 w) (rs2 w).toNat⟩) ∧
    Row p 0x40005013 0xFE00707F (fun w => ⟨recI w, .SRAI, true, text2Imm p "SRAI" (rd w) (rs1 w) (rs2 w).toNat⟩) ∧
    ∀ w, opcode w = 0b0010011 → funct3 w = 0b101 → funct7 w ≠ 0b0000000 → funct7 w ≠ 0b0100000 →
      Gives p w (unknown (recI w))) ∧
  (∀ w, (w &&& 0xFE00707F = 0x00005013 → (patI w).toInt = (rs2 w).toNat) ∧
    (w &&& 0xFE00707F = 0x40005013 → (patI w).toInt = 1024 + (rs2 w).toNat)) ∧
  (p.shift = .wholeImm →
    Row p 0x00005013 0xFFF0707F (fun w => ⟨recI w, .SRLI, true, text2Imm p "SRLI" (rd w) (rs1 w) (rs2 w).toNat⟩) ∧
    Row p 0x02005013 0xFFF0707F (fun w => ⟨recI w, .SRAI, true, text2Imm p "SRAI" (rd w) (rs1 w) (rs2 w).toNat⟩) ∧
    ∀ w, opcode w = 0b0010011 → funct3 w = 0b101 → patI w ≠ 0 → patI w ≠ 0x20 → Gives p w (unknown (recI w))) ∧
  (∀ a f3 b imm, classify p (.iType 0b0010011 a f3 b imm) = .UNKNOWN → f3 = 0b101)

/-- 43_itype.md R113 to R115: ECALL and EBREAK for every funct3, rd and rs1, printed bare, and every other system word
`UNKNOWN`. No exception is taken: the step goes on to the caller's next word. -/
def Obligations.SystemRows : Prop :=
  ∀ p : Params,
  Row p 0x00000073 0xFFF0007F (fun w => ⟨recI w, .ECALL, true, "ECALL"⟩) ∧
  Row p 0x00100073 0xFFF0007F (fun w => ⟨recI w, .EBREAK, true, "EBREAK"⟩) ∧
  (∀ w, opcode w = 0b1110011 → patI w ≠ 0 → patI w ≠ 1 → Gives p w (unknown (recI w)))

/-- 44_stype.md R116 to R120: the three store rows, `rs2` first and the base in parentheses, and the fall-through. -/
def Obligations.StoreRows : Prop :=
  ∀ p : Params,
  Row p 0x00000023 0x0000707F (fun w => ⟨recS w, .SB, true, textBase p "SB" (rs2 w) (patS w).toInt (rs1 w)⟩) ∧
  Row p 0x00001023 0x0000707F (fun w => ⟨recS w, .SH, true, textBase p "SH" (rs2 w) (patS w).toInt (rs1 w)⟩) ∧
  Row p 0x00002023 0x0000707F (fun w => ⟨recS w, .SW, true, textBase p "SW" (rs2 w) (patS w).toInt (rs1 w)⟩) ∧
  (∀ w, opcode w = 0b0100011 → 0b011 ≤ funct3 w → Gives p w (unknown (recS w)))

/-- 45_btype.md R121 to R128: the six branch rows, with the signed byte offset, and the fall-through. -/
def Obligations.BranchRows : Prop :=
  ∀ p : Params,
  Row p 0x00000063 0x0000707F (fun w => ⟨recB w, .BEQ, true, text2Imm p "BEQ" (rs1 w) (rs2 w) (patB w).toInt⟩) ∧
  Row p 0x00001063 0x0000707F (fun w => ⟨recB w, .BNE, true, text2Imm p "BNE" (rs1 w) (rs2 w) (patB w).toInt⟩) ∧
  Row p 0x00004063 0x0000707F (fun w => ⟨recB w, .BLT, true, text2Imm p "BLT" (rs1 w) (rs2 w) (patB w).toInt⟩) ∧
  Row p 0x00005063 0x0000707F (fun w => ⟨recB w, .BGE, true, text2Imm p "BGE" (rs1 w) (rs2 w) (patB w).toInt⟩) ∧
  Row p 0x00006063 0x0000707F (fun w => ⟨recB w, .BLTU, true, text2Imm p "BLTU" (rs1 w) (rs2 w) (patB w).toInt⟩) ∧
  Row p 0x00007063 0x0000707F (fun w => ⟨recB w, .BGEU, true, text2Imm p "BGEU" (rs1 w) (rs2 w) (patB w).toInt⟩) ∧
  (∀ w, opcode w = 0b1100011 → funct3 w = 0b010 ∨ funct3 w = 0b011 → Gives p w (unknown (recB w)))

/-- 46_utype_jtype.md R129 to R133: LUI and AUIPC with the unshifted 20-bit value, JAL with the byte offset; the opcode
alone selects them. -/
def Obligations.UpperImmediateAndJumpRows : Prop :=
  ∀ p : Params,
  Row p 0x00000037 0x0000007F (fun w => ⟨recU w, .LUI, true, text1Imm p "LUI" (rd w) (patU w).toInt⟩) ∧
  Row p 0x00000017 0x0000007F (fun w => ⟨recU w, .AUIPC, true, text1Imm p "AUIPC" (rd w) (patU w).toInt⟩) ∧
  Row p 0x0000006F 0x0000007F (fun w => ⟨recJ w, .JAL, true, text1Imm p "JAL" (rd w) (patJ w).toInt⟩)

/-- 47_fence_invalid.md R134, R135: every word with opcode `0001111` gives the one FENCE record and prints `FENCE`; a word
that fails the primary dispatch gives INVALID, `UNKNOWN` and the placeholder, the same text as a word that fails only the
secondary dispatch, from which its tag tells it. -/
def Obligations.TerminalVariants : Prop :=
  ∀ p : Params,
  Row p 0x0000000F 0x0000007F (fun _ => ⟨.fence 0b0001111, .FENCE, true, "FENCE"⟩) ∧
  (∀ w, opcode w ∉ listedOpcodes → ¬(opcode w = 0b0000000 ∧ (w = 0 ∨ p.opc0 = .rAll)) →
    Gives p w (unknown .invalid)) ∧
  (∀ w, (evaluate p w).op = .UNKNOWN → (evaluate p w).text = "Invalid instruction" ∧ (evaluate p w).text.length = 19 ∧
    ((evaluate p w).record = .invalid ↔
      opcode w ∉ listedOpcodes ∧ ¬(opcode w = 0b0000000 ∧ (w = 0 ∨ p.opc0 = .rAll))))

/-- The opcode table is exactly the decoder: under every parameter, a word has an operation select other than `UNKNOWN`
exactly when a row of the table with that operation matches it (30_encoding.md R53; 48_formatter.md R145). -/
def Obligations.OpcodeTableIsTheOperationSelect : Prop :=
  ∀ (p : Params) (w : Word) (op : Op), op ≠ .UNKNOWN →
    (classify p (decode p w) = op ↔ ∃ row ∈ opcodeTable p, row.op = op ∧ row.matchesWord w)

/-- Every row of the opcode table is selected and prints its mnemonic, the part of 48_formatter.md R145 that is about the
name: a word the row matches is classified as the row's operation, and its text begins with the row's printed mnemonic
as a token. The printed operands stand in the row statements (RTypeRows to TerminalVariants). -/
def Obligations.RowsPrintTheirMnemonic : Prop :=
  ∀ (p : Params) (w : Word), ∀ row ∈ opcodeTable p, row.matchesWord w →
    classify p (decode p w) = row.op ∧
    (format p (decode p w) = row.printed ∨ ∃ operands, format p (decode p w) = row.printed ++ " x" ++ operands)

/-- No two rows of the opcode table match one word (48_formatter.md R140; 95_test_vectors.md section 3). -/
def Obligations.NoTwoRowsMatchOneWord : Prop :=
  ∀ (p : Params) (w : Word), (opcodeTable p).Pairwise fun a b => ¬(a.matchesWord w ∧ b.matchesWord w)

/-- 30_encoding.md R55, row by row: a word is `UNKNOWN` (`legal` false) exactly when it falls in one of the nine classes,
each class is named by the decoder's rejection, and the record's tag is the one the row gives. -/
def Obligations.UnknownWordsAreTheNineClasses : Prop :=
  ∀ (p : Params) (w : Word),
    let isR := opcode w = 0b0110011 ∨ (opcode w = 0b0000000 ∧ (w = 0 ∨ p.opc0 = .rAll))
    (decodeInstr p w = .error .opcode ↔ opcode w ∉ listedOpcodes ∧ opcode w ≠ 0b0000000) ∧
    (decodeInstr p w = .error .opcodeZero ↔ opcode w = 0b0000000 ∧ w ≠ 0 ∧ p.opc0 = .zeroWordOnly) ∧
    (decodeInstr p w = .error .addFunct7 ↔
      isR ∧ funct3 w = 0b000 ∧ funct7 w ≠ 0b0000000 ∧ funct7 w ≠ 0b0100000) ∧
    (decodeInstr p w = .error .shiftFunct7 ↔
      isR ∧ funct3 w = 0b101 ∧ funct7 w ≠ 0b0000000 ∧ funct7 w ≠ 0b0100000) ∧
    (decodeInstr p w = .error .loadFunct3 ↔
      opcode w = 0b0000011 ∧ (funct3 w = 0b011 ∨ funct3 w = 0b110 ∨ funct3 w = 0b111)) ∧
    (decodeInstr p w = .error .shiftImm ↔ opcode w = 0b0010011 ∧ funct3 w = 0b101 ∧
      (p.shift = .funct7Field → funct7 w ≠ 0b0000000 ∧ funct7 w ≠ 0b0100000) ∧
      (p.shift = .wholeImm → patI w ≠ 0 ∧ patI w ≠ 0x20)) ∧
    (decodeInstr p w = .error .systemImm ↔ opcode w = 0b1110011 ∧ patI w ≠ 0 ∧ patI w ≠ 1) ∧
    (decodeInstr p w = .error .storeFunct3 ↔ opcode w = 0b0100011 ∧ 0b011 ≤ funct3 w) ∧
    (decodeInstr p w = .error .branchFunct3 ↔ opcode w = 0b1100011 ∧ (funct3 w = 0b010 ∨ funct3 w = 0b011)) ∧
    decodeInstr p w ≠ .error .recordOpcode ∧
    ((evaluate p w).legal = false ↔ ∃ e, decodeInstr p w = .error e) ∧
    (∀ e, decodeInstr p w = .error e → (decode p w).tag =
      match e with
      | .opcode | .opcodeZero | .recordOpcode => Tag.INVALID
      | .addFunct7 | .shiftFunct7 => .R
      | .loadFunct3 | .shiftImm | .systemImm => .I
      | .storeFunct3 => .S
      | .branchFunct3 => .B)

/-- The count of 95_test_vectors.md section 6 (also 30_encoding.md R55): under the default parameters the block
recognises 281,231,361 of the 2^32 words. -/
def Obligations.RecognisedWordCount : Prop :=
  (Finset.univ.filter fun w : Word => classify Params.default (decode Params.default w) ≠ .UNKNOWN).card = 281231361

/-- 30_encoding.md R56, row by row: the bits the operation select ignores change neither `op` nor the printed text, but
the record reports them. -/
def Obligations.IgnoredBitsChangeNothingPrinted : Prop :=
  ∀ p : Params,
  (∀ o a f3 b c f7 f7', f3 ≠ 0b000 → f3 ≠ 0b101 →
    classify p (.rType o a f3 b c f7) = classify p (.rType o a f3 b c f7') ∧
    classify p (.rType o a f3 b c f7) ≠ .UNKNOWN ∧
    format p (.rType o a f3 b c f7) = format p (.rType o a f3 b c f7')) ∧
  (∀ a f3 f3' b imm,
    classify p (.iType 0b1100111 a f3 b imm) = .JALR ∧
    format p (.iType 0b1100111 a f3 b imm) = format p (.iType 0b1100111 a f3' b imm)) ∧
  (∀ a b imm imm', classify p (.iType 0b0010011 a 0b001 b imm) = .SLLI ∧
    ((tc32 imm).extractLsb 4 0 = (tc32 imm').extractLsb 4 0 →
      format p (.iType 0b0010011 a 0b001 b imm) = format p (.iType 0b0010011 a 0b001 b imm'))) ∧
  (∀ a f3 b, classify p (.iType 0b1110011 a f3 b 0) = .ECALL ∧ format p (.iType 0b1110011 a f3 b 0) = "ECALL" ∧
    classify p (.iType 0b1110011 a f3 b 1) = .EBREAK ∧ format p (.iType 0b1110011 a f3 b 1) = "EBREAK") ∧
  (∀ w, opcode w = 0b0001111 → decode p w = .fence 0b0001111 ∧ format p (decode p w) = "FENCE") ∧
  (∀ a imm, classify p (.uType 0b0110111 a imm) = .LUI ∧ classify p (.uType 0b0010111 a imm) = .AUIPC) ∧
  (∀ o a imm, classify p (.jType o a imm) = .JAL) ∧
  (∀ o o' a f3 b c f7,
    classify p (.rType o a f3 b c f7) = classify p (.rType o' a f3 b c f7) ∧
    format p (.rType o a f3 b c f7) = format p (.rType o' a f3 b c f7)) ∧
  (∀ w, (opcode w = 0b0110011 → ∃ o a f3 b c, decode p w = .rType o a f3 b c (funct7 w)) ∧
    (opcode w = 0b1100111 ∨ opcode w = 0b0010011 ∨ opcode w = 0b1110011 →
      decode p w = .iType (opcode w) (rd w) (funct3 w) (rs1 w) (patI w).toInt))

/-- 30_encoding.md R57: what becomes of words that other RISC-V extensions define, by the default match of the shift rows;
the names in the rule (MUL, CSRRW, MRET, FENCE.I, the compressed words) are foreign, the outputs follow from the table. -/
def Obligations.ForeignWords : Prop :=
  ∀ (p : Params) (w : Word),
    let op := (evaluate p w).op
    (opcode w = 0b0110011 → funct7 w = 0b0000001 →
      (decode p w).tag = .R ∧ (funct3 w = 0b000 ∨ funct3 w = 0b101 → op = .UNKNOWN) ∧
      (funct3 w = 0b001 → op = .SLL) ∧ (funct3 w = 0b010 → op = .SLT) ∧ (funct3 w = 0b011 → op = .SLTU) ∧
      (funct3 w = 0b100 → op = .XOR) ∧ (funct3 w = 0b110 → op = .OR) ∧ (funct3 w = 0b111 → op = .AND)) ∧
    (opcode w = 0b1110011 → funct3 w ≠ 0b000 →
      op = if patI w = 0 then .ECALL else if patI w = 1 then .EBREAK else .UNKNOWN) ∧
    (opcode w = 0b1110011 → funct3 w = 0b000 → patI w = 0x302 ∨ patI w = 0x102 ∨ patI w = 0x105 → op = .UNKNOWN) ∧
    (opcode w = 0b0001111 → op = .FENCE) ∧
    (opcode w = 0b0010011 → funct3 w = 0b001 → w.getLsbD 25 = true →
      op = .SLLI ∧ (evaluate p w).text = text2Imm p "SLLI" (rd w) (rs1 w) (rs2 w).toNat) ∧
    (p.shift = .funct7Field → opcode w = 0b0010011 → funct3 w = 0b101 → w.getLsbD 25 = true → op = .UNKNOWN) ∧
    (opcode w = 0b0011011 ∨ opcode w = 0b0111011 ∨ opcode w = 0b1010011 ∨ opcode w = 0b0101111 ∨
      opcode w = 0b1010111 ∨ (w.extractLsb 1 0 ≠ 0b11#2 ∧ opcode w ≠ 0b0000000) →
      decode p w = .invalid ∧ op = .UNKNOWN)

/-- 48_formatter.md R141 (which the spec marks as derived from R137): on records `decode` never returns, the I and U arms fall back to `UNKNOWN`, and the other arms
do not read the opcode. -/
def Obligations.RecordsOutsideTheDecoder : Prop :=
  ∀ p : Params,
  (∀ o a f3 b imm, o ∉ ([0b1100111, 0b0000011, 0b0010011, 0b1110011] : List Opcode) →
    classify p (.iType o a f3 b imm) = .UNKNOWN ∧ format p (.iType o a f3 b imm) = "Invalid instruction") ∧
  (∀ o a imm, o ≠ 0b0110111 → o ≠ 0b0010111 →
    classify p (.uType o a imm) = .UNKNOWN ∧ format p (.uType o a imm) = "Invalid instruction") ∧
  (∀ o o' a f3 b c f7, classify p (.rType o a f3 b c f7) = classify p (.rType o' a f3 b c f7)) ∧
  (∀ o o' f3 a b imm, classify p (.sType o f3 a b imm) = classify p (.sType o' f3 a b imm)) ∧
  (∀ o o' f3 a b imm, classify p (.bType o f3 a b imm) = classify p (.bType o' f3 a b imm)) ∧
  (∀ o a imm, classify p (.jType o a imm) = .JAL) ∧ (∀ o, classify p (.fence o) = .FENCE)

/-- 00_scope.md R7, 30_encoding.md R59 (95_test_vectors.md section 5): no parameter changes the decoding of a word with a
listed opcode; `OPC0_POLICY` matters to `decode` only, `SHIFT_IMM_MATCH` only to the operation select of the `101` row
of ALU-immediate, and `TEXT_SEPARATOR` to nothing but the text. -/
def Obligations.ParametersChangeNothingElse : Prop :=
  ∀ p q : Params,
  (∀ w, opcode w ∈ listedOpcodes ∨ w = 0 ∨ p.opc0 = q.opc0 → decode p w = decode q w) ∧
  (∀ r, p.shift = q.shift ∨ (∀ a b imm, r ≠ .iType 0b0010011 a 0b101 b imm) → classify p r = classify q r) ∧
  (p.opc0 = q.opc0 → p.shift = q.shift → ∀ w,
    (evaluate p w).record = (evaluate q w).record ∧ (evaluate p w).op = (evaluate q w).op ∧
    (evaluate p w).legal = (evaluate q w).legal)

/-! ### The text view -/

/-- `format(r) = "Invalid instruction"` exactly when `classify(r) = UNKNOWN` (95_test_vectors.md section 3; 48_formatter.md
R139, R142), on every record, also those `decode` never returns; and the text is never empty (47_fence_invalid.md
R136). -/
def Obligations.PlaceholderExactlyForUnknown : Prop :=
  ∀ (p : Params) (r : Decoded),
    (format p r = "Invalid instruction" ↔ classify p r = .UNKNOWN) ∧ format p r ≠ ""

/-- `dec` of 00_scope.md R9 (30_encoding.md R60): digits only after an optional minus sign, no leading zero, `0` for 0,
the value read back, and different integers have different numerals. -/
def Obligations.DecimalNumerals : Prop :=
  (∀ n : Nat,
    (dec n).toList ≠ [] ∧ (∀ c ∈ (dec n).toList, '0' ≤ c ∧ c ≤ '9') ∧
    ((dec n).toList.foldl (fun v c => 10 * v + (c.toNat - '0'.toNat)) 0 = n) ∧
    (n ≠ 0 → (dec n).toList.head? ≠ some '0') ∧
    (n ≠ 0 → dec (-(n : Int)) = "-" ++ dec n)) ∧
  dec 0 = "0" ∧
  (∀ i j : Int, dec i = dec j → i = j)

/-- 48_formatter.md R143 (which the spec marks as derived from R142): the characters and the greatest lengths of the text, for records in range, with the lengths
reached. -/
def Obligations.TextAlphabetAndLength : Prop :=
  (∀ (p : Params) (r : Decoded), r.wellFormed = true →
    (∀ c ∈ (format p r).toList,
      ('A' ≤ c ∧ c ≤ 'Z') ∨ c ∈ "Invalid instruction".toList ∨ c = 'x' ∨ ('0' ≤ c ∧ c ≤ '9') ∨ c = ' ' ∨
        c = '-' ∨ c = '(' ∨ c = ')' ∨ (c = ',' ∧ p.sep = .commaSpace)) ∧
    (p.sep = .space → (format p r).length ≤ 19 ∧ (classify p r ≠ .UNKNOWN → (format p r).length ≤ 18)) ∧
    (p.sep = .commaSpace → (format p r).length ≤ 20)) ∧
  "Invalid instruction".length = 19 ∧
  (∀ p : Params,
    (p.sep = .space → format p (decode p 0x80A57063) = "BGEU x10 x10 -4096") ∧
    (p.sep = .space → format p (decode p 0x800F8F93) = "ADDI x31 x31 -2048") ∧
    (p.sep = .space → format p (decode p 0x80054503) = "LBU x10 -2048(x10)") ∧
    (p.sep = .commaSpace → format p (decode p 0x80A57063) = "BGEU x10, x10, -4096"))

/-! ### The port-level view -/

/-- 10_state.md R22 to R24: the wires for every word: the tag's number (R24), the fields of the active variant as slices
of the word (R23), the immediate as its pattern sign-extended to 32 bits (R22). That a port the variant does not have is
`none` is the model's choice (log entry 7): R23 leaves it unspecified, any value, never to be read. -/
def Obligations.PortsShowTheActiveFields : Prop :=
  ∀ (p : Params) (w : Word),
    let q := (evaluate p w).ports
    let l := (evaluate p w).legal
    ((decode p w).tag = .R → q = ⟨0, some (opcode w), some (rd w), some (funct3 w), some (rs1 w), some (rs2 w),
      some (funct7 w), none, l⟩) ∧
    ((decode p w).tag = .I → q = ⟨1, some (opcode w), some (rd w), some (funct3 w), some (rs1 w), none, none,
      some ((patI w).signExtend 32), l⟩) ∧
    ((decode p w).tag = .S → q = ⟨2, some (opcode w), none, some (funct3 w), some (rs1 w), some (rs2 w), none,
      some ((patS w).signExtend 32), l⟩) ∧
    ((decode p w).tag = .B → q = ⟨3, some (opcode w), none, some (funct3 w), some (rs1 w), some (rs2 w), none,
      some ((patB w).signExtend 32), l⟩) ∧
    ((decode p w).tag = .U → q = ⟨4, some (opcode w), some (rd w), none, none, none, none,
      some ((patU w).signExtend 32), l⟩) ∧
    ((decode p w).tag = .J → q = ⟨5, some (opcode w), some (rd w), none, none, none, none,
      some ((patJ w).signExtend 32), l⟩) ∧
    ((decode p w).tag = .FENCE → q = ⟨6, some 0b0001111, none, none, none, none, none, none, true⟩) ∧
    ((decode p w).tag = .INVALID → q = ⟨7, none, none, none, none, none, none, none, false⟩)

/-! ### The meanings: every instruction completes, delivers its output and changes nothing else -/

/-- ADD, SUB, SRL, SRA and the six R-type rows that ignore funct7 complete in every state with every operand, under both
opcodes an R-type record can carry; each delivers its record, op and text, and nothing else changes (42_rtype.md). On
the opcode `0000000` operands that no word has under `ZERO_WORD_ONLY` this is the model's choice (log entry 13). -/
def Obligations.RTypeMeanings : Prop :=
  ∀ (s : State) (opc : ROpcode) (a b c : RegIndex) (f7 : Funct7),
  let t := fun name => text3 s.params name a b c
  Delivers s (exec (.add opc a b c) s) ⟨.rType opc.bits a 0b000 b c 0b0000000, .ADD, true, t "ADD"⟩ ∧
  Delivers s (exec (.sub opc a b c) s) ⟨.rType opc.bits a 0b000 b c 0b0100000, .SUB, true, t "SUB"⟩ ∧
  Delivers s (exec (.srl opc a b c) s) ⟨.rType opc.bits a 0b101 b c 0b0000000, .SRL, true, t "SRL"⟩ ∧
  Delivers s (exec (.sra opc a b c) s) ⟨.rType opc.bits a 0b101 b c 0b0100000, .SRA, true, t "SRA"⟩ ∧
  Delivers s (exec (.sll opc a b c f7) s) ⟨.rType opc.bits a 0b001 b c f7, .SLL, true, t "SLL"⟩ ∧
  Delivers s (exec (.slt opc a b c f7) s) ⟨.rType opc.bits a 0b010 b c f7, .SLT, true, t "SLT"⟩ ∧
  Delivers s (exec (.sltu opc a b c f7) s) ⟨.rType opc.bits a 0b011 b c f7, .SLTU, true, t "SLTU"⟩ ∧
  Delivers s (exec (.xor opc a b c f7) s) ⟨.rType opc.bits a 0b100 b c f7, .XOR, true, t "XOR"⟩ ∧
  Delivers s (exec (.or opc a b c f7) s) ⟨.rType opc.bits a 0b110 b c f7, .OR, true, t "OR"⟩ ∧
  Delivers s (exec (.and opc a b c f7) s) ⟨.rType opc.bits a 0b111 b c f7, .AND, true, t "AND"⟩

/-- JALR and the five loads complete in every state with every operand; no target is computed and nothing is read
(43_itype.md R94 to R100). `imm` is any integer: on one that no word has (not a 12-bit signed value) the outcome is the
model's choice (log entry 13). -/
def Obligations.JalrAndLoadMeanings : Prop :=
  ∀ (s : State) (a b : RegIndex) (f3 : Funct3) (imm : Int),
  Delivers s (exec (.jalr a f3 b imm) s)
    ⟨.iType 0b1100111 a f3 b imm, .JALR, true, text2Imm s.params "JALR" a b imm⟩ ∧
  Delivers s (exec (.lb a b imm) s) ⟨.iType 0b0000011 a 0b000 b imm, .LB, true, textBase s.params "LB" a imm b⟩ ∧
  Delivers s (exec (.lh a b imm) s) ⟨.iType 0b0000011 a 0b001 b imm, .LH, true, textBase s.params "LH" a imm b⟩ ∧
  Delivers s (exec (.lw a b imm) s) ⟨.iType 0b0000011 a 0b010 b imm, .LW, true, textBase s.params "LW" a imm b⟩ ∧
  Delivers s (exec (.lbu a b imm) s) ⟨.iType 0b0000011 a 0b100 b imm, .LBU, true, textBase s.params "LBU" a imm b⟩ ∧
  Delivers s (exec (.lhu a b imm) s) ⟨.iType 0b0000011 a 0b101 b imm, .LHU, true, textBase s.params "LHU" a imm b⟩

/-- The nine ALU-immediate instructions complete in every state with every operand; the shifts print the low five bits of
the immediate (43_itype.md R103 to R111). `imm` is any integer: on one that the instruction has in no word, out of the
12-bit range or, for SRLI and SRAI, off the key of R110 or R111 (there R112 makes the record of a word `UNKNOWN`, as
ShiftImmediateRows says), the outcome is the model's choice (log entry 13). -/
def Obligations.AluImmediateMeanings : Prop :=
  ∀ (s : State) (a b : RegIndex) (imm : Int),
  Delivers s (exec (.addi a b imm) s) ⟨.iType 0b0010011 a 0b000 b imm, .ADDI, true, text2Imm s.params "ADDI" a b imm⟩ ∧
  Delivers s (exec (.slti a b imm) s) ⟨.iType 0b0010011 a 0b010 b imm, .SLTI, true, text2Imm s.params "SLTI" a b imm⟩ ∧
  Delivers s (exec (.sltiu a b imm) s) ⟨.iType 0b0010011 a 0b011 b imm, .SLTIU, true, text2Imm s.params "SLTU" a b imm⟩ ∧
  Delivers s (exec (.xori a b imm) s) ⟨.iType 0b0010011 a 0b100 b imm, .XORI, true, text2Imm s.params "XORI" a b imm⟩ ∧
  Delivers s (exec (.ori a b imm) s) ⟨.iType 0b0010011 a 0b110 b imm, .ORI, true, text2Imm s.params "ORI" a b imm⟩ ∧
  Delivers s (exec (.andi a b imm) s) ⟨.iType 0b0010011 a 0b111 b imm, .ANDI, true, text2Imm s.params "ANDI" a b imm⟩ ∧
  Delivers s (exec (.slli a b imm) s)
    ⟨.iType 0b0010011 a 0b001 b imm, .SLLI, true, text2Imm s.params "SLLI" a b (imm % 32)⟩ ∧
  Delivers s (exec (.srli a b imm) s)
    ⟨.iType 0b0010011 a 0b101 b imm, .SRLI, true, text2Imm s.params "SRLI" a b (imm % 32)⟩ ∧
  Delivers s (exec (.srai a b imm) s)
    ⟨.iType 0b0010011 a 0b101 b imm, .SRAI, true, text2Imm s.params "SRAI" a b (imm % 32)⟩

/-- ECALL, EBREAK and FENCE complete in every state: the block names the word, takes no exception and orders nothing
(43_itype.md R113, R114; 47_fence_invalid.md R134). -/
def Obligations.SystemAndFenceMeanings : Prop :=
  ∀ (s : State) (a b : RegIndex) (f3 : Funct3),
  Delivers s (exec (.ecall a f3 b) s) ⟨.iType 0b1110011 a f3 b 0, .ECALL, true, "ECALL"⟩ ∧
  Delivers s (exec (.ebreak a f3 b) s) ⟨.iType 0b1110011 a f3 b 1, .EBREAK, true, "EBREAK"⟩ ∧
  Delivers s (exec .fence s) ⟨.fence 0b0001111, .FENCE, true, "FENCE"⟩

/-- The stores and branches complete in every state with every operand: nothing is stored, compared or branched to
(44_stype.md R117 to R119; 45_btype.md R122 to R127). `imm` is any integer: on one that no word has (out of the format's
range, or odd in a branch) the outcome is the model's choice (log entry 13). -/
def Obligations.StoreAndBranchMeanings : Prop :=
  ∀ (s : State) (b c : RegIndex) (imm : Int),
  Delivers s (exec (.sb b c imm) s) ⟨.sType 0b0100011 0b000 b c imm, .SB, true, textBase s.params "SB" c imm b⟩ ∧
  Delivers s (exec (.sh b c imm) s) ⟨.sType 0b0100011 0b001 b c imm, .SH, true, textBase s.params "SH" c imm b⟩ ∧
  Delivers s (exec (.sw b c imm) s) ⟨.sType 0b0100011 0b010 b c imm, .SW, true, textBase s.params "SW" c imm b⟩ ∧
  Delivers s (exec (.beq b c imm) s) ⟨.bType 0b1100011 0b000 b c imm, .BEQ, true, text2Imm s.params "BEQ" b c imm⟩ ∧
  Delivers s (exec (.bne b c imm) s) ⟨.bType 0b1100011 0b001 b c imm, .BNE, true, text2Imm s.params "BNE" b c imm⟩ ∧
  Delivers s (exec (.blt b c imm) s) ⟨.bType 0b1100011 0b100 b c imm, .BLT, true, text2Imm s.params "BLT" b c imm⟩ ∧
  Delivers s (exec (.bge b c imm) s) ⟨.bType 0b1100011 0b101 b c imm, .BGE, true, text2Imm s.params "BGE" b c imm⟩ ∧
  Delivers s (exec (.bltu b c imm) s) ⟨.bType 0b1100011 0b110 b c imm, .BLTU, true, text2Imm s.params "BLTU" b c imm⟩ ∧
  Delivers s (exec (.bgeu b c imm) s) ⟨.bType 0b1100011 0b111 b c imm, .BGEU, true, text2Imm s.params "BGEU" b c imm⟩

/-- LUI, AUIPC and JAL complete in every state with every operand: the unshifted value and the offset are printed, nothing
is added to a pc (46_utype_jtype.md R130, R131, R133). `imm` is any integer: on one that no word has (out of the format's
range, or odd in JAL) the outcome is the model's choice (log entry 13). -/
def Obligations.UpperImmediateAndJumpMeanings : Prop :=
  ∀ (s : State) (a : RegIndex) (imm : Int),
  Delivers s (exec (.lui a imm) s) ⟨.uType 0b0110111 a imm, .LUI, true, text1Imm s.params "LUI" a imm⟩ ∧
  Delivers s (exec (.auipc a imm) s) ⟨.uType 0b0010111 a imm, .AUIPC, true, text1Imm s.params "AUIPC" a imm⟩ ∧
  Delivers s (exec (.jal a imm) s) ⟨.jType 0b1101111 a imm, .JAL, true, text1Imm s.params "JAL" a imm⟩

/-- Every instruction of the table, all forty: a well-formed one completes in every state, and its meaning delivers what
the spec's own algorithm gives for its word (48_formatter.md R138, R142): record, op, `legal` and text. -/
def Obligations.EveryMeaningIsTheAlgorithm : Prop :=
  ∀ (s : State) (i : Instr), i.wellFormed s.params = true →
    Delivers s (exec i s) (evaluate s.params (encode i)) ∧ (evaluate s.params (encode i)).op = i.op ∧
    (evaluate s.params (encode i)).legal = true

/-- The frame of every instruction: it always completes, with one more result read back that is legal, and the parameters,
the words still to be presented and the earlier results are as they were. No register, flag, pc or memory exists to
change (10_state.md R19 to R21; 20_memory.md R27). That an instruction no word stands for (one that is not well-formed)
completes so too is the model's choice (log entry 13), as are the two lists beside the block (log entry 1). -/
def Obligations.EveryInstructionCompletesWithItsFrame : Prop :=
  ∀ (i : Instr) (s : State), ∃ o, Delivers s (exec i s) o ∧ o.op = i.op ∧ o.legal = true

/-! ### The step and the run -/

/-- A step runs the decoded instruction: with the word taken off the caller's list, step is exec of the instruction the
word decodes to. -/
def Obligations.StepRunsTheDecodedInstruction : Prop :=
  ∀ (s : State) (w : Word) (rest : List Word) (i : Instr), s.pending = w :: rest → decodeInstr s.params w = .ok i →
    step s = exec i { s with pending := rest }

/-- 30_encoding.md R54, 60_exceptions.md R147, R154: a word no row names stops nothing; it keeps the record of the primary
dispatch, and is `UNKNOWN`, not legal, printed as the placeholder, and the run goes on. -/
def Obligations.UnrecognisedWordsCompleteToo : Prop :=
  ∀ (s : State) (w : Word) (rest : List Word) (e : Unrecognised), s.pending = w :: rest →
    decodeInstr s.params w = .error e →
    step s = .next { s with
      pending := rest, results := s.results ++ [⟨decode s.params w, .UNKNOWN, false, "Invalid instruction"⟩] }

/-- 70_reset_and_hazards.md R160: one step is one evaluation. For every word, recognised or not, the machine's step, which
runs through the per-instruction meanings, hands over `r = decode(w)`, `op = classify(r)`, `legal = (op != UNKNOWN)` and
`format(r)`, and leaves nothing else behind. (The two lists that hold the words and the outputs are the model's form of
the caller's side, log entry 1.) -/
def Obligations.StepIsOneEvaluation : Prop :=
  ∀ (s : State) (w : Word) (rest : List Word), s.pending = w :: rest →
    step s = .next (State.mk s.params rest
      (s.results ++ [⟨decode s.params w, classify s.params (decode s.params w),
        decide (classify s.params (decode s.params w) ≠ .UNKNOWN), format s.params (decode s.params w)⟩]))

/-- 60_exceptions.md R146, 00_scope.md R6 (the model's `noWordPresented`, log entry 4, is no answer to a word): with a word
presented every step completes, and the only step that does not is the one with no word left. -/
def Obligations.EveryPresentedWordCompletes : Prop :=
  (∀ s : State, s.pending ≠ [] ↔ ∃ t, step s = .next t) ∧
  (∀ (s : State) (r : Refusal), step s = .refused r ↔ s.pending = [] ∧ r = .noWordPresented)

/-- 70_reset_and_hazards.md R160: a run over a list of words is the list of the independent evaluations in the same order,
whatever the caller has read before and presents after; permuting the words permutes the outputs. (The two
lists are the model's form of the caller's side, log entry 1.) -/
def Obligations.RunIsTheListOfEvaluations : Prop :=
  (∀ (p : Params) (ws rest : List Word) (before : List Output),
    Sys2Proof.core.run ws.length (State.mk p (ws ++ rest) before) =
      .next (State.mk p rest (before ++ ws.map (evaluate p)))) ∧
  (∀ (p : Params) (ws vs : List Word), ws.Perm vs → ∃ os os', os.Perm os' ∧
    Sys2Proof.core.run ws.length (State.mk p ws []) = .next (State.mk p [] os) ∧
    Sys2Proof.core.run vs.length (State.mk p vs []) = .next (State.mk p [] os'))

/-- 10_state.md R13, 70_reset_and_hazards.md R161: the output for a word depends on the word and the parameters alone, not
on what was presented or read before nor on what follows. -/
def Obligations.OutputIgnoresHistory : Prop :=
  ∀ (s t : State) (w : Word) (rest rest' : List Word), s.params = t.params → s.pending = w :: rest →
    t.pending = w :: rest' →
    ∃ o, step s = .next { s with pending := rest, results := s.results ++ [o] } ∧
      step t = .next { t with pending := rest', results := t.results ++ [o] }

/-- What a step changes: one word fewer to present, one output more to read, the parameters and the earlier outputs as
they were. -/
def Obligations.StepFrame : Prop :=
  ∀ s t : State, step s = .next t →
    t.params = s.params ∧ s.pending.drop 1 = t.pending ∧ s.pending.length = t.pending.length + 1 ∧
    s.results <+: t.results ∧ t.results.length = s.results.length + 1

/-- The invariant: every step keeps everything the caller has read consistent (fields in range, B and J offsets even, `op`
the operation select of the record, `legal` exactly `op != UNKNOWN`, the text the record's text). -/
def Obligations.StepKeepsOutputsConsistent : Prop :=
  ∀ s t : State, s.Inv → step s = .next t → t.Inv

/-- The invariant holds at reset, where nothing has been presented or read (the model's choice, log entries 1 and 3) and
the parameters are at the spec's defaults (00_scope.md R7). -/
def Obligations.ResetHoldsNothing : Prop :=
  State.reset.Inv ∧ State.reset.pending = [] ∧ State.reset.results = [] ∧
    State.reset.params = { opc0 := .zeroWordOnly, shift := .funct7Field, sep := .space }

/-- 70_reset_and_hazards.md R158, which speaks of the outputs only: from reset, with any word presented, the outputs are
the function of that word from the first evaluation; with the zero word, ADD and legal. That exactly one output and no
word stand in the next state is the model's choice: `results` is empty at reset (log entry 1), and so is `pending`, in
which `withFetchWord` places the one word (log entry 3). -/
def Obligations.OutputsRightAfterReset : Prop :=
  (∀ w : Word, step (State.reset.withFetchWord 32 w.toNat) =
    .next (State.mk Params.default [] [evaluate Params.default w])) ∧
  step (State.reset.withFetchWord 32 0) =
    .next (State.mk Params.default [] [⟨.rType 0 0 0 0 0 0, .ADD, true, "ADD x0 x0 x0"⟩])
end

