-- ==== Sys2Proof/Laws/Bits.lean ====
section
/-! SUPPORT. The Field Extractor and sign extension: what a slice's bits and value are, the range and the sign of an
immediate, and that a signed value and its two's-complement pattern determine one another. -/

namespace Sys2Proof

theorem extract_toNat (w : Word) (off n : Nat) (h) : (extract w off n h).toNat = w.toNat / 2 ^ off % 2 ^ n := by
  simp [extract, BitVec.extractLsb'_toNat, Nat.shiftRight_eq_div_pow]

theorem extract_getLsbD (w : Word) (off n : Nat) (h) (k : Nat) :
    (extract w off n h).getLsbD k = (decide (k < n) && w.getLsbD (off + k)) := by
  simp [extract]

/-- `sext` of R9 is the signed value of the pattern. -/
theorem sext_eq_toInt {n : Nat} (v : BitVec n) : sext v = v.toInt := by
  cases n with
  | zero => simp [sext, BitVec.of_length_zero]
  | succ m =>
    rw [sext, BitVec.toInt_eq_msb_cond, BitVec.msb_eq_getLsbD_last]
    split <;> simp_all

theorem sext_ofInt {n : Nat} (hn : 0 < n) {i : Int} (h : fitsSigned n i = true) : sext (BitVec.ofInt n i) = i := by
  obtain ⟨m, rfl⟩ : ∃ m, n = m + 1 := ⟨n - 1, by omega⟩
  simp only [fitsSigned, decide_eq_true_eq, Nat.add_sub_cancel] at h
  rw [sext_eq_toInt, BitVec.toInt_ofInt, Int.bmod_eq_of_le] <;> push_cast <;> rw [pow_succ] <;> omega

theorem ofInt_sext {n : Nat} (v : BitVec n) : BitVec.ofInt n (sext v) = v := by
  rw [sext_eq_toInt, BitVec.ofInt_toInt]

theorem sext_fits {n : Nat} (hn : 0 < n) (v : BitVec n) : fitsSigned n (sext v) = true := by
  obtain ⟨m, rfl⟩ : ∃ m, n = m + 1 := ⟨n - 1, by omega⟩
  have h1 := BitVec.le_toInt v
  have h2 := BitVec.toInt_lt (x := v)
  simp only [fitsSigned, decide_eq_true_eq, sext_eq_toInt, Nat.add_sub_cancel] at *
  exact ⟨h1, by simpa using h2⟩

theorem sext_inj {n : Nat} {v u : BitVec n} : sext v = sext u ↔ v = u := by
  rw [sext_eq_toInt, sext_eq_toInt, BitVec.toInt_inj]

theorem sext_neg {n : Nat} (v : BitVec n) : sext v < 0 ↔ v.msb = true := by
  rw [sext_eq_toInt, BitVec.msb_eq_toInt]; simp

/-- A pattern whose lowest bit is 0 has an even value. -/
theorem sext_even {n : Nat} (v : BitVec n) : sext (v ++ 0#1) % 2 = 0 := by
  have h : (v ++ 0#1).toNat % 2 = 0 := by simp [BitVec.toNat_append, Nat.shiftLeft_eq]
  unfold sext
  split
  · rw [pow_succ]; omega
  · omega

@[simp] theorem immI_ok (w : Word) : immOk12 (immI w) = true := sext_fits (by decide) _
@[simp] theorem immS_ok (w : Word) : immOk12 (immS w) = true := sext_fits (n := 12) (by decide) _
@[simp] theorem immU_ok (w : Word) : immOkU (immU w) = true := sext_fits (by decide) _

@[simp] theorem immB_ok (w : Word) : immOkB (immB w) = true := by
  simp only [immOkB, Bool.and_eq_true, decide_eq_true_eq]
  exact ⟨sext_fits (n := 13) (by decide) _, sext_even (n := 12) _⟩

@[simp] theorem immJ_ok (w : Word) : immOkJ (immJ w) = true := by
  simp only [immOkJ, Bool.and_eq_true, decide_eq_true_eq]
  exact ⟨sext_fits (n := 21) (by decide) _, sext_even (n := 20) _⟩

end Sys2Proof
end

