-- ==== Sys2Proof/Laws/Encode.lean ====
section
/-! SUPPORT. The layouts read back: every field of a packed word, and the packed word of every field of a word. -/

namespace Sys2Proof

section fields
variable (opcode : Opcode) (rd rs1 rs2 : RegIndex) (funct3 : Funct3) (funct7 : Funct7)

@[simp] theorem packR_opcode : extract (packR opcode rd funct3 rs1 rs2 funct7) 0 7 = opcode := by
  ext i hi; simp [extract, packR]; grind
@[simp] theorem packR_rd : extract (packR opcode rd funct3 rs1 rs2 funct7) 7 5 = rd := by
  ext i hi; simp [extract, packR]; grind
@[simp] theorem packR_funct3 : extract (packR opcode rd funct3 rs1 rs2 funct7) 12 3 = funct3 := by
  ext i hi; simp [extract, packR]; grind
@[simp] theorem packR_rs1 : extract (packR opcode rd funct3 rs1 rs2 funct7) 15 5 = rs1 := by
  ext i hi; simp [extract, packR]; grind
@[simp] theorem packR_rs2 : extract (packR opcode rd funct3 rs1 rs2 funct7) 20 5 = rs2 := by
  ext i hi; simp [extract, packR]; grind
@[simp] theorem packR_funct7 : extract (packR opcode rd funct3 rs1 rs2 funct7) 25 7 = funct7 := by
  ext i hi; simp [extract, packR]; grind

/-- Re-packing the R-type fields of a word gives the word (41_decoder.md R70, R80). -/
@[simp] theorem packR_extract (w : Word) :
    packR (extract w 0 7) (extract w 7 5) (extract w 12 3) (extract w 15 5) (extract w 20 5) (extract w 25 7) = w := by
  ext i hi; simp [extract, packR]; grind

variable (i12 : BitVec 12)

@[simp] theorem packI_opcode : extract (packI opcode rd funct3 rs1 i12) 0 7 = opcode := by
  ext i hi; simp [extract, packI]; grind
@[simp] theorem packI_rd : extract (packI opcode rd funct3 rs1 i12) 7 5 = rd := by
  ext i hi; simp [extract, packI]; grind
@[simp] theorem packI_funct3 : extract (packI opcode rd funct3 rs1 i12) 12 3 = funct3 := by
  ext i hi; simp [extract, packI]; grind
@[simp] theorem packI_rs1 : extract (packI opcode rd funct3 rs1 i12) 15 5 = rs1 := by
  ext i hi; simp [extract, packI]; grind
@[simp] theorem packI_imm : extract (packI opcode rd funct3 rs1 i12) 20 12 = i12 := by
  ext i hi; simp [extract, packI]; grind

@[simp] theorem packI_extract (w : Word) :
    packI (extract w 0 7) (extract w 7 5) (extract w 12 3) (extract w 15 5) (extract w 20 12) = w := by
  ext i hi; simp [extract, packI]; grind

@[simp] theorem packS_opcode : extract (packS opcode funct3 rs1 rs2 i12) 0 7 = opcode := by
  ext i hi; simp [extract, packS]; grind
@[simp] theorem packS_funct3 : extract (packS opcode funct3 rs1 rs2 i12) 12 3 = funct3 := by
  ext i hi; simp [extract, packS]; grind
@[simp] theorem packS_rs1 : extract (packS opcode funct3 rs1 rs2 i12) 15 5 = rs1 := by
  ext i hi; simp [extract, packS]; grind
@[simp] theorem packS_rs2 : extract (packS opcode funct3 rs1 rs2 i12) 20 5 = rs2 := by
  ext i hi; simp [extract, packS]; grind
@[simp] theorem packS_imm :
    extract (packS opcode funct3 rs1 rs2 i12) 25 7 ++ extract (packS opcode funct3 rs1 rs2 i12) 7 5 = i12 := by
  apply BitVec.eq_of_getLsbD_eq
  intro i hi
  simp only [extract, packS, BitVec.getLsbD_append, BitVec.getLsbD_extractLsb']
  interval_cases i <;> simp

variable (i13 : BitVec 13) (i20 : BitVec 20) (i21 : BitVec 21)

@[simp] theorem packB_opcode : extract (packB opcode funct3 rs1 rs2 i13) 0 7 = opcode := by
  ext i hi; simp [extract, packB]; grind
@[simp] theorem packB_funct3 : extract (packB opcode funct3 rs1 rs2 i13) 12 3 = funct3 := by
  ext i hi; simp [extract, packB]; grind
@[simp] theorem packB_rs1 : extract (packB opcode funct3 rs1 rs2 i13) 15 5 = rs1 := by
  ext i hi; simp [extract, packB]; grind
@[simp] theorem packB_rs2 : extract (packB opcode funct3 rs1 rs2 i13) 20 5 = rs2 := by
  ext i hi; simp [extract, packB]; grind

@[simp] theorem packU_opcode : extract (packU opcode rd i20) 0 7 = opcode := by
  ext i hi; simp [extract, packU]; grind
@[simp] theorem packU_rd : extract (packU opcode rd i20) 7 5 = rd := by
  ext i hi; simp [extract, packU]; grind
@[simp] theorem packU_imm : extract (packU opcode rd i20) 12 20 = i20 := by
  ext i hi; simp [extract, packU]; grind
@[simp] theorem packU_extract (w : Word) : packU (extract w 0 7) (extract w 7 5) (extract w 12 20) = w := by
  ext i hi; simp [extract, packU]; grind

@[simp] theorem packJ_opcode : extract (packJ opcode rd i21) 0 7 = opcode := by
  ext i hi; simp [extract, packJ]; grind
@[simp] theorem packJ_rd : extract (packJ opcode rd i21) 7 5 = rd := by
  ext i hi; simp [extract, packJ]; grind

/-! The scattered immediates of the S, B and J layouts, pattern for pattern. -/

@[simp] theorem packS_extract (w : Word) :
    packS (extract w 0 7) (extract w 12 3) (extract w 15 5) (extract w 20 5) (extract w 25 7 ++ extract w 7 5) = w := by
  apply BitVec.eq_of_getLsbD_eq
  intro i hi
  simp only [extract, packS, BitVec.getLsbD_append, BitVec.getLsbD_extractLsb']
  interval_cases i <;> simp

theorem packB_imm (h : i13.getLsbD 0 = false) :
    let w := packB opcode funct3 rs1 rs2 i13
    extract w 31 1 ++ extract w 7 1 ++ extract w 25 6 ++ extract w 8 4 ++ 0#1 = i13 := by
  apply BitVec.eq_of_getLsbD_eq
  intro i hi
  simp only [extract, packB, BitVec.getLsbD_append, BitVec.getLsbD_extractLsb']
  interval_cases i <;> simp
  simpa using h

@[simp] theorem packB_extract (w : Word) :
    packB (extract w 0 7) (extract w 12 3) (extract w 15 5) (extract w 20 5)
      (extract w 31 1 ++ extract w 7 1 ++ extract w 25 6 ++ extract w 8 4 ++ 0#1) = w := by
  apply BitVec.eq_of_getLsbD_eq
  intro i hi
  simp only [extract, packB, BitVec.getLsbD_append, BitVec.getLsbD_extractLsb']
  interval_cases i <;> simp

theorem packJ_imm (h : i21.getLsbD 0 = false) :
    let w := packJ opcode rd i21
    extract w 31 1 ++ extract w 12 8 ++ extract w 20 1 ++ extract w 21 10 ++ 0#1 = i21 := by
  apply BitVec.eq_of_getLsbD_eq
  intro i hi
  simp only [extract, packJ, BitVec.getLsbD_append, BitVec.getLsbD_extractLsb']
  interval_cases i <;> simp
  simpa using h

@[simp] theorem packJ_extract (w : Word) :
    packJ (extract w 0 7) (extract w 7 5)
      (extract w 31 1 ++ extract w 12 8 ++ extract w 20 1 ++ extract w 21 10 ++ 0#1) = w := by
  apply BitVec.eq_of_getLsbD_eq
  intro i hi
  simp only [extract, packJ, BitVec.getLsbD_append, BitVec.getLsbD_extractLsb']
  interval_cases i <;> simp

/-! The immediate of a packed word is the integer that was packed. -/

theorem immI_packI {i : Int} (h : immOk12 i = true) : immI (packI opcode rd funct3 rs1 (.ofInt 12 i)) = i := by
  simp [immI, sext_ofInt (n := 12) (by decide) h]

theorem immS_packS {i : Int} (h : immOk12 i = true) : immS (packS opcode funct3 rs1 rs2 (.ofInt 12 i)) = i := by
  simp [immS, sext_ofInt (n := 12) (by decide) h]

theorem immU_packU {i : Int} (h : immOkU i = true) : immU (packU opcode rd (.ofInt 20 i)) = i := by
  simp [immU, sext_ofInt (n := 20) (by decide) h]

/-- The lowest bit of an even integer's pattern is 0. -/
theorem ofInt_even {n : Nat} {i : Int} (h : i % 2 = 0) : (BitVec.ofInt n i).getLsbD 0 = false := by
  cases n with
  | zero => simp [BitVec.of_length_zero]
  | succ m =>
    have e : ((BitVec.ofInt (m + 1) i).toNat : Int) % 2 = 0 := by
      rw [BitVec.toNat_ofInt, Int.toNat_of_nonneg (Int.emod_nonneg _ (by positivity))]
      rw [Int.emod_emod_of_dvd _ (by exact ⟨2 ^ m, by push_cast; ring⟩), h]
    simp only [BitVec.getLsbD, Nat.testBit_zero]
    grind

theorem immB_packB {i : Int} (h : immOkB i = true) : immB (packB opcode funct3 rs1 rs2 (.ofInt 13 i)) = i := by
  simp only [immOkB, Bool.and_eq_true, decide_eq_true_eq] at h
  rw [immB, packB_imm _ _ _ _ _ (ofInt_even h.2), sext_ofInt (n := 13) (by decide) h.1]

theorem immJ_packJ {i : Int} (h : immOkJ i = true) : immJ (packJ opcode rd (.ofInt 21 i)) = i := by
  simp only [immOkJ, Bool.and_eq_true, decide_eq_true_eq] at h
  rw [immJ, packJ_imm _ _ _ (ofInt_even h.2), sext_ofInt (n := 21) (by decide) h.1]

end fields

end Sys2Proof
end

