-- ==== Sys2Proof/Laws/Masks.lean ====
section
/-! SUPPORT. A word is its six fields, and `w & mask = match` is a condition on each of them. -/

namespace Sys2Proof

/-- A word is determined by the six fields of the R layout (41_decoder.md R70). -/
theorem word_ext {w u : Word} :
    w = u ↔ extract w 0 7 = extract u 0 7 ∧ extract w 7 5 = extract u 7 5 ∧ extract w 12 3 = extract u 12 3 ∧
      extract w 15 5 = extract u 15 5 ∧ extract w 20 5 = extract u 20 5 ∧ extract w 25 7 = extract u 25 7 := by
  constructor
  · rintro rfl; simp
  · rintro ⟨h1, h2, h3, h4, h5, h6⟩
    rw [← packR_extract w, ← packR_extract u, h1, h2, h3, h4, h5, h6]

theorem extract_and (w u : Word) (off n : Nat) (h) :
    extract (w &&& u) off n h = extract w off n h &&& extract u off n h := by
  ext i hi; simp [extract]

/-- A match and mask, field by field. -/
theorem and_eq_iff {w mask m : Word} :
    w &&& mask = m ↔
      extract w 0 7 &&& extract mask 0 7 = extract m 0 7 ∧ extract w 7 5 &&& extract mask 7 5 = extract m 7 5 ∧
      extract w 12 3 &&& extract mask 12 3 = extract m 12 3 ∧ extract w 15 5 &&& extract mask 15 5 = extract m 15 5 ∧
      extract w 20 5 &&& extract mask 20 5 = extract m 20 5 ∧ extract w 25 7 &&& extract mask 25 7 = extract m 25 7 := by
  simp only [word_ext, extract_and]

/-- A slice of a literal, for the literal's own reduction. -/
theorem extract_ofNat (k off n : Nat) (h) : extract (BitVec.ofNat 32 k) off n h = (BitVec.ofNat 32 k).extractLsb' off n :=
  rfl

theorem and_ones7 (x : BitVec 7) : x &&& 127#7 = x := BitVec.and_allOnes
theorem and_ones5 (x : BitVec 5) : x &&& 31#5 = x := BitVec.and_allOnes
theorem and_ones3 (x : BitVec 3) : x &&& 7#3 = x := BitVec.and_allOnes

/-! The masks of the opcode table, each as the fields its pattern fixes; `hm` is a fact about the literal. -/

variable {w m : Word}

theorem matches_opcode (hm : m &&& 0x0000007F = m) : w &&& 0x0000007F = m ↔ extract w 0 7 = extract m 0 7 := by
  rw [← hm]; simp [and_eq_iff, extract_and, extract_ofNat, and_ones7]

theorem matches_funct3 (hm : m &&& 0x0000707F = m) :
    w &&& 0x0000707F = m ↔ extract w 0 7 = extract m 0 7 ∧ extract w 12 3 = extract m 12 3 := by
  rw [← hm]; simp [and_eq_iff, extract_and, extract_ofNat, and_ones7, and_ones3]

theorem matches_funct7 (hm : m &&& 0xFE00707F = m) :
    w &&& 0xFE00707F = m ↔
      extract w 0 7 = extract m 0 7 ∧ extract w 12 3 = extract m 12 3 ∧ extract w 25 7 = extract m 25 7 := by
  rw [← hm]; simp [and_eq_iff, extract_and, extract_ofNat, and_ones7, and_ones3]

/-- The immediate of the I layout is its two upper fields. -/
theorem extract_imm12_eq {u : Word} :
    extract w 20 12 = extract u 20 12 ↔ extract w 20 5 = extract u 20 5 ∧ extract w 25 7 = extract u 25 7 := by
  have low (v : Word) : extract v 20 5 = (extract v 20 12).extractLsb' 0 5 := by ext i hi; simp [extract]; omega
  have high (v : Word) : extract v 25 7 = (extract v 20 12).extractLsb' 5 7 := by
    ext i hi; simp [extract, ← Nat.add_assoc]; omega
  have whole (v : Word) : extract v 20 12 = extract v 25 7 ++ extract v 20 5 := by ext i hi; simp [extract]; grind
  exact ⟨fun h => by rw [low, low u, high, high u, h]; simp, fun h => by rw [whole, whole u, h.1, h.2]⟩

theorem matches_system (hm : m &&& 0xFFF0007F = m) :
    w &&& 0xFFF0007F = m ↔ extract w 0 7 = extract m 0 7 ∧ extract w 20 12 = extract m 20 12 := by
  rw [extract_imm12_eq, ← hm]; simp [and_eq_iff, extract_and, extract_ofNat, and_ones7, and_ones5]

theorem matches_wholeImm (hm : m &&& 0xFFF0707F = m) :
    w &&& 0xFFF0707F = m ↔
      extract w 0 7 = extract m 0 7 ∧ extract w 12 3 = extract m 12 3 ∧ extract w 20 12 = extract m 20 12 := by
  rw [extract_imm12_eq, ← hm]; simp [and_eq_iff, extract_and, extract_ofNat, and_ones7, and_ones5, and_ones3]

end Sys2Proof
end

