-- ==== Sys2Proof/Laws/Count.lean ====
section
/-! SUPPORT. How many words a match and mask of the opcode table has, and that disjoint rows add up (95_test_vectors.md
section 6). -/

namespace Sys2Proof

/-- A word as its six fields, and back (41_decoder.md R70, R80). -/
def wordFields : Word ≃ Opcode × RegIndex × Funct3 × RegIndex × RegIndex × Funct7 where
  toFun w := (extract w 0 7, extract w 7 5, extract w 12 3, extract w 15 5, extract w 20 5, extract w 25 7)
  invFun x := packR x.1 x.2.1 x.2.2.1 x.2.2.2.1 x.2.2.2.2.1 x.2.2.2.2.2
  left_inv w := packR_extract w
  right_inv x := by simp

/-- The words whose fields lie in given sets are as many as the product of the sets' sizes. -/
theorem card_fields (a : Finset Opcode) (b : Finset RegIndex) (c : Finset Funct3) (d e : Finset RegIndex)
    (f : Finset Funct7) (P : Word → Prop) [DecidablePred P]
    (h : ∀ w, P w ↔ extract w 0 7 ∈ a ∧ extract w 7 5 ∈ b ∧ extract w 12 3 ∈ c ∧ extract w 15 5 ∈ d ∧
      extract w 20 5 ∈ e ∧ extract w 25 7 ∈ f) :
    (Finset.univ.filter P).card = a.card * (b.card * (c.card * (d.card * (e.card * f.card)))) := by
  rw [← Finset.card_product, ← Finset.card_product, ← Finset.card_product, ← Finset.card_product,
    ← Finset.card_product]
  refine Finset.card_equiv wordFields fun w => ?_
  simp [h, wordFields]

theorem card_bitVec (n : Nat) : (Finset.univ : Finset (BitVec n)).card = 2 ^ n := by
  rw [Finset.card_univ, Fintype.card_congr (BitVec.equivFin (m := n)).toEquiv, Fintype.card_fin]

variable {m : Word}

theorem card_opcode (hm : m &&& 0x0000007F = m) :
    (Finset.univ.filter fun w : Word => w &&& 0x0000007F = m).card = 2 ^ 25 := by
  rw [card_fields {extract m 0 7} .univ .univ .univ .univ .univ _ fun w => by rw [matches_opcode hm]; simp]
  simp only [Finset.card_singleton, card_bitVec]; norm_num

theorem card_funct3 (hm : m &&& 0x0000707F = m) :
    (Finset.univ.filter fun w : Word => w &&& 0x0000707F = m).card = 2 ^ 22 := by
  rw [card_fields {extract m 0 7} .univ {extract m 12 3} .univ .univ .univ _ fun w => by rw [matches_funct3 hm]; simp]
  simp only [Finset.card_singleton, card_bitVec]; norm_num

theorem card_funct7 (hm : m &&& 0xFE00707F = m) :
    (Finset.univ.filter fun w : Word => w &&& 0xFE00707F = m).card = 2 ^ 15 := by
  rw [card_fields {extract m 0 7} .univ {extract m 12 3} .univ .univ {extract m 25 7} _
    fun w => by rw [matches_funct7 hm]; simp]
  simp only [Finset.card_singleton, card_bitVec]; norm_num

theorem card_system (hm : m &&& 0xFFF0007F = m) :
    (Finset.univ.filter fun w : Word => w &&& 0xFFF0007F = m).card = 2 ^ 13 := by
  rw [card_fields {extract m 0 7} .univ .univ .univ {extract m 20 5} {extract m 25 7} _
    fun w => by rw [matches_system hm, extract_imm12_eq]; simp]
  simp only [Finset.card_singleton, card_bitVec]; norm_num

theorem card_wholeImm (hm : m &&& 0xFFF0707F = m) :
    (Finset.univ.filter fun w : Word => w &&& 0xFFF0707F = m).card = 2 ^ 10 := by
  rw [card_fields {extract m 0 7} .univ {extract m 12 3} .univ {extract m 20 5} {extract m 25 7} _
    fun w => by rw [matches_wholeImm hm, extract_imm12_eq]; simp]
  simp only [Finset.card_singleton, card_bitVec]; norm_num

theorem card_zeroWord : (Finset.univ.filter fun w : Word => w &&& 0xFFFFFFFF = 0).card = 1 := by
  have h : ∀ w : Word, w &&& 0xFFFFFFFF = 0 ↔ w = 0 := fun w => by rw [show w &&& 0xFFFFFFFF = w from BitVec.and_allOnes]
  simp only [h, Finset.filter_eq', Finset.mem_univ, if_true, Finset.card_singleton]

/-- Predicates of which no two hold of one element count together as the sum of their counts. -/
theorem card_exists_of_pairwise {α β : Type} [Fintype β] [DecidableEq β] {P : α → β → Prop}
    [∀ a, DecidablePred (P a)] (l : List α) (h : ∀ w, l.Pairwise fun a b => ¬(P a w ∧ P b w)) :
    (Finset.univ.filter fun w => ∃ a ∈ l, P a w).card = (l.map fun a => (Finset.univ.filter (P a)).card).sum := by
  induction l with
  | nil => simp
  | cons a l ih =>
    rw [List.map_cons, List.sum_cons, ← ih fun w => (List.pairwise_cons.1 (h w)).2, ← Finset.card_union_of_disjoint]
    · congr 1; ext w; simp
    · rw [Finset.disjoint_filter]
      rintro w - ha ⟨b, hb, hp⟩
      exact (List.pairwise_cons.1 (h w)).1 b hb ⟨ha, hp⟩

/-- The words that a mask of the table leaves free: `2` to the number of its zero bits. -/
def wordsOfMask (mask : Word) : Nat :=
  if mask = 0x0000007F then 2 ^ 25
  else if mask = 0x0000707F then 2 ^ 22
  else if mask = 0xFE00707F then 2 ^ 15
  else if mask = 0xFFF0007F then 2 ^ 13
  else if mask = 0xFFF0707F then 2 ^ 10
  else 1

/-- The masks of the opcode table are six, and each row's pattern lies in its mask. -/
theorem opcodeTable_masks (p : Params) : ∀ row ∈ opcodeTable p, row.pattern &&& row.mask = row.pattern ∧
    (row.mask = 0x0000007F ∨ row.mask = 0x0000707F ∨ row.mask = 0xFE00707F ∨ row.mask = 0xFFF0007F ∨
      row.mask = 0xFFF0707F ∨ (row.mask = 0xFFFFFFFF ∧ row.pattern = 0)) := by
  cases p with
  | mk opc0 shift sep => cases opc0 <;> cases shift <;> cases sep <;> decide

/-- Every row of the opcode table matches as many words as its mask leaves free. -/
theorem card_row {p : Params} {row : TableRow} (h : row ∈ opcodeTable p) :
    (Finset.univ.filter fun w : Word => w &&& row.mask = row.pattern).card = wordsOfMask row.mask := by
  have hrow := opcodeTable_masks p row h
  obtain ⟨op, printed, pattern, mask⟩ := row
  obtain ⟨hm, hmask⟩ := hrow
  simp only at hm hmask ⊢
  rcases hmask with rfl | rfl | rfl | rfl | rfl | ⟨rfl, rfl⟩
  · exact card_opcode hm
  · exact card_funct3 hm
  · exact card_funct7 hm
  · exact card_system hm
  · exact card_wholeImm hm
  · exact card_zeroWord

end Sys2Proof
end

