-- ==== Sys2Proof/Laws/Decode.lean ====
section
/-! SUPPORT. The multiplexer, one lemma per parser, and its inversion. -/

namespace Sys2Proof

variable {p : Params} {w : Word}

theorem decode_parseU (h : extract w 0 7 = 0b0110111 ∨ extract w 0 7 = 0b0010111) : decode p w = parseU w := by
  rcases h with h | h <;> simp [decode, h]

theorem decode_parseJ (h : extract w 0 7 = 0b1101111) : decode p w = parseJ w := by simp [decode, h]

theorem decode_parseI (h : extract w 0 7 = 0b1100111 ∨ extract w 0 7 = 0b0000011 ∨ extract w 0 7 = 0b0010011 ∨
    extract w 0 7 = 0b1110011) : decode p w = parseI w := by
  rcases h with h | h | h | h <;> simp [decode, h]

theorem decode_parseB (h : extract w 0 7 = 0b1100011) : decode p w = parseB w := by simp [decode, h]

theorem decode_parseS (h : extract w 0 7 = 0b0100011) : decode p w = parseS w := by simp [decode, h]

theorem decode_parseR (h : extract w 0 7 = 0b0110011) : decode p w = parseR w := by simp [decode, h]

theorem decode_fence (h : extract w 0 7 = 0b0001111) : decode p w = .fence 0b0001111 := by simp [decode, h]

theorem decode_zero (h : extract w 0 7 = 0b0000000) (hz : w = 0 ∨ p.opc0 = .rAll) : decode p w = parseR w := by
  rcases hz with rfl | hz
  · rfl
  · simp [decode, h, hz]

/-- What `decode` can answer: a parser's record with the opcode that selects it, or a terminal. -/
theorem decode_cases (p : Params) (w : Word) :
    (decode p w = parseU w ∧ (extract w 0 7 = 0b0110111 ∨ extract w 0 7 = 0b0010111)) ∨
    (decode p w = parseJ w ∧ extract w 0 7 = 0b1101111) ∨
    (decode p w = parseI w ∧ (extract w 0 7 = 0b1100111 ∨ extract w 0 7 = 0b0000011 ∨ extract w 0 7 = 0b0010011 ∨
      extract w 0 7 = 0b1110011)) ∨
    (decode p w = parseB w ∧ extract w 0 7 = 0b1100011) ∨
    (decode p w = parseS w ∧ extract w 0 7 = 0b0100011) ∨
    (decode p w = parseR w ∧ extract w 0 7 = 0b0110011) ∨
    (decode p w = .fence 0b0001111 ∧ extract w 0 7 = 0b0001111) ∨
    (decode p w = parseR w ∧ extract w 0 7 = 0b0000000 ∧ (w = 0 ∨ p.opc0 = .rAll)) ∨
    (decode p w = .invalid ∧ extract w 0 7 ≠ 0b0110111 ∧ extract w 0 7 ≠ 0b0010111 ∧ extract w 0 7 ≠ 0b1101111 ∧
      extract w 0 7 ≠ 0b1100111 ∧ extract w 0 7 ≠ 0b0000011 ∧ extract w 0 7 ≠ 0b0010011 ∧ extract w 0 7 ≠ 0b1110011 ∧
      extract w 0 7 ≠ 0b1100011 ∧ extract w 0 7 ≠ 0b0100011 ∧ extract w 0 7 ≠ 0b0110011 ∧ extract w 0 7 ≠ 0b0001111 ∧
      ¬(extract w 0 7 = 0b0000000 ∧ (w = 0 ∨ p.opc0 = .rAll))) := by
  simp only [decode]
  split_ifs with h1 h2 h3 h4 h5 h6 h7 h8
  · exact .inl ⟨rfl, h1⟩
  · exact .inr (.inl ⟨rfl, h2⟩)
  · exact .inr (.inr (.inl ⟨rfl, h3⟩))
  · exact .inr (.inr (.inr (.inl ⟨rfl, h4⟩)))
  · exact .inr (.inr (.inr (.inr (.inl ⟨rfl, h5⟩))))
  · exact .inr (.inr (.inr (.inr (.inr (.inl ⟨rfl, h6⟩)))))
  · exact .inr (.inr (.inr (.inr (.inr (.inr (.inl ⟨by rw [h7], h7⟩))))))
  · exact .inr (.inr (.inr (.inr (.inr (.inr (.inr (.inl ⟨rfl, h8⟩)))))))
  · push Not at h1 h3
    exact .inr (.inr (.inr (.inr (.inr (.inr (.inr (.inr
      ⟨rfl, h1.1, h1.2, h2, h3.1, h3.2.1, h3.2.2.1, h3.2.2.2, h4, h5, h6, h7, h8⟩)))))))

/-- A word that is not INVALID is an instruction exactly when its record is one. -/
theorem decodeInstr_eq (h : decode p w ≠ .invalid) : decodeInstr p w = recognise p (decode p w) := by
  unfold decodeInstr; split <;> simp_all

/-- A recognised word is not INVALID, and its record is recognised. -/
theorem decodeInstr_ok {i : Instr} (h : decodeInstr p w = .ok i) : recognise p (decode p w) = .ok i := by
  unfold decodeInstr at h
  split at h
  · split at h <;> simp at h
  · exact h

end Sys2Proof
end

