-- ==== Sys2Proof/Laws/State.lean ====
section
/-! SUPPORT. One lemma per field per state update, and what the shared operations can do. -/

namespace Sys2Proof.Machine

variable (s : State) (ws : List Word) (o : Output) (w : Word)

@[simp] theorem setPending_params : (s.setPending ws).params = s.params := rfl
@[simp] theorem setPending_pending : (s.setPending ws).pending = ws := rfl
@[simp] theorem setPending_results : (s.setPending ws).results = s.results := rfl

@[simp] theorem addResult_params : (s.addResult o).params = s.params := rfl
@[simp] theorem addResult_pending : (s.addResult o).pending = s.pending := rfl
@[simp] theorem addResult_results : (s.addResult o).results = s.results ++ [o] := rfl

@[simp] theorem presentWord_params : (presentWord w s).params = s.params := rfl
@[simp] theorem presentWord_pending : (presentWord w s).pending = w :: s.pending.drop 1 := rfl
@[simp] theorem presentWord_results : (presentWord w s).results = s.results := rfl

@[simp] theorem legalOf_eq_true (op : Op) : legalOf op = true ↔ op ≠ .UNKNOWN := by simp [legalOf]

/-- Taking a word takes the first of the pending ones and touches nothing else. -/
theorem takeWord_eq_some {s s' : State} {w : Word} :
    takeWord s = some (w, s') ↔ s.pending = w :: s'.pending ∧ s' = s.setPending s'.pending := by
  unfold takeWord
  cases s with
  | mk p pending results =>
    cases pending with
    | nil => simp
    | cons v rest =>
      cases s'
      simp [State.setPending]
      grind

@[simp] theorem takeWord_cons {s : State} {rest : List Word} (h : s.pending = w :: rest) :
    takeWord s = some (w, s.setPending rest) := by simp [takeWord, h]

@[simp] theorem takeWord_nil {s : State} (h : s.pending = []) : takeWord s = none := by simp [takeWord, h]

theorem takeWord_eq_none {s : State} : takeWord s = none ↔ s.pending = [] := by
  unfold takeWord; split <;> simp_all

/-- The whole effect of `deliver`: one more output, and the frame. -/
theorem deliver_eq_next {op : Op} {r : Decoded} {text : String} {s s' : State} :
    deliver op r text s = .next s' ↔
      s'.params = s.params ∧ s'.pending = s.pending ∧ s'.results = s.results ++ [⟨r, op, legalOf op, text⟩] := by
  cases s; cases s'
  simp [deliver, State.addResult, eq_comm]

end Sys2Proof.Machine
end

