-- ==== Sys2Proof/Laws/Formatter.lean ====
section
/-! SUPPORT. The two readings of the secondary dispatch agree: the operation select and the text view of a recognised
record are what its instruction's meaning delivers, and a record that is not recognised is `UNKNOWN`. -/

namespace Sys2Proof.Machine

variable {p : Params} {r : Decoded} {i : Instr}

/-- The meaning of a recognised record delivers the operation select and the text view of that record. -/
theorem exec_of_recognise (h : recognise p r = .ok i) {s : State} (hp : s.params = p) :
    exec i s = deliver (classify p r) r (format p r) s := by
  subst hp
  cases r with
  | rType opcode rd funct3 rs1 rs2 funct7 =>
    simp only [recognise, rOpcodeOf] at h
    split_ifs at h with h1 h2 <;> simp only [recogniseR] at h <;> split at h <;> (try split_ifs at h) <;>
      cases h <;> simp_all [format, classify, classifyR, render, opName, exec] <;> rfl
  | iType opcode rd funct3 rs1 imm =>
    simp only [recognise, recogniseI] at h
    split_ifs at h with h1 h2 h3 h4
    · cases h; subst h1; rfl
    · subst h2; simp only [recogniseLoad] at h; split at h <;> cases h <;> rfl
    · subst h3; simp only [recogniseAluImm] at h
      split at h <;> (try (cases h; rfl))
      split at h <;> rename_i hs <;> split_ifs at h with h5 h6 <;> cases h <;>
        simp_all [format, classify, classifyI, render, opName, exec, shiftKey] <;> rfl
    · subst h4; simp only [recogniseSystem] at h; split_ifs at h with h5 h6 <;> cases h <;> subst_vars <;> rfl
  | sType opcode funct3 rs1 rs2 imm =>
    simp only [recognise] at h; split_ifs at h with h1; subst h1
    simp only [recogniseS] at h; split at h <;> cases h <;> rfl
  | bType opcode funct3 rs1 rs2 imm =>
    simp only [recognise] at h; split_ifs at h with h1; subst h1
    simp only [recogniseB] at h; split at h <;> cases h <;> rfl
  | uType opcode rd imm =>
    simp only [recognise, recogniseU] at h; split_ifs at h with h1 h2 <;> cases h <;> subst_vars <;> rfl
  | jType opcode rd imm => simp only [recognise] at h; split_ifs at h with h1; cases h; subst h1; rfl
  | fence opcode => simp only [recognise] at h; split_ifs at h with h1; cases h; subst h1; rfl
  | invalid => simp [recognise] at h

/-- A record that matches no row is `UNKNOWN`, unless `decode` cannot make it at all. -/
theorem classify_of_unrecognised {e : Unrecognised} (h : recognise p r = .error e) (he : e ≠ .recordOpcode) :
    classify p r = .UNKNOWN := by
  cases r with
  | rType opcode rd funct3 rs1 rs2 funct7 =>
    simp only [recognise, rOpcodeOf] at h
    split_ifs at h with h1 h2 <;> simp only [recogniseR] at h <;> (try split at h) <;> (try split_ifs at h) <;>
      cases h <;> simp_all [classify, classifyR]
  | iType opcode rd funct3 rs1 imm =>
    simp only [recognise, recogniseI] at h
    split_ifs at h with h1 h2 h3 h4
    · subst h2; simp only [recogniseLoad] at h; split at h <;> cases h <;> rfl
    · subst h3; simp only [recogniseAluImm] at h
      split at h <;> (try cases h)
      split at h <;> rename_i hs <;> split_ifs at h with h5 h6 <;>
        simp_all [classify, classifyI, shiftKey]
      rw [if_neg fun h7 => h5 (BitVec.eq_of_toNat_eq (by simpa using h7)),
        if_neg fun h7 => h6 (BitVec.eq_of_toNat_eq (by simpa using mod_cast h7))]
    · subst h4; simp only [recogniseSystem] at h; split_ifs at h with h5 h6; simp [classify, classifyI, h5, h6]
    · cases h; exact absurd rfl he
  | sType opcode funct3 rs1 rs2 imm =>
    simp only [recognise] at h; split_ifs at h
    · simp only [recogniseS] at h; split at h <;> cases h <;> rfl
    · cases h; exact absurd rfl he
  | bType opcode funct3 rs1 rs2 imm =>
    simp only [recognise] at h; split_ifs at h
    · simp only [recogniseB] at h; split at h <;> cases h <;> rfl
    · cases h; exact absurd rfl he
  | uType opcode rd imm =>
    simp only [recognise, recogniseU] at h; split_ifs at h; cases h; exact absurd rfl he
  | jType opcode rd imm => simp only [recognise] at h; split_ifs at h; cases h; exact absurd rfl he
  | fence opcode => simp only [recognise] at h; split_ifs at h; cases h; exact absurd rfl he
  | invalid => rfl

end Sys2Proof.Machine
end

