-- ==== Sys2Proof/Laws/PerInstr.lean ====
section
/-! SUPPORT. Per instruction: the word of a well-formed instruction is matched by the table row of its operation
(48_formatter.md R145, from the instruction's side). -/

namespace Sys2Proof.Laws

/-- The instruction has an operation of its own (10_state.md R17), and under every parameter that admits it a row of the
opcode table names it and matches its word. -/
def EncodesToRow.Statement (i : Instr) : Prop :=
  i.op ≠ .UNKNOWN ∧
    ∀ p : Params, i.wellFormed p = true → ∃ row ∈ opcodeTable p, row.op = i.op ∧ row.matchesWord (encode i)

namespace EncodesToRow

variable {p : Params}

theorem row {row : TableRow} {op : Op} {w : Word} (h : row ∈ opcodeTable p) (ho : row.op = op)
    (hm : row.matchesWord w) : ∃ row ∈ opcodeTable p, row.op = op ∧ row.matchesWord w := ⟨_, h, ho, hm⟩

/-- The word with opcode `0000000` is the R-type word with its opcode cleared. -/
theorem packR_zero (rd : RegIndex) (funct3 : Funct3) (rs1 rs2 : RegIndex) (funct7 : Funct7) :
    packR 0 rd funct3 rs1 rs2 funct7 = packR 0b0110011 rd funct3 rs1 rs2 funct7 &&& 0xFFFFFF80 := by
  rw [eq_comm, and_eq_iff]; simp [extract_ofNat, and_ones7, and_ones3, and_ones5]

/-- An R-type word is in its row, or, with opcode `0000000` under `R_ALL`, in the row with the opcode cleared. -/
theorem rowR {row : TableRow} {op : Op} {opc : ROpcode} {rd rs1 rs2 : RegIndex} {funct3 : Funct3} {funct7 : Funct7}
    (h : row ∈ tableR) (ho : row.op = op) (hp : rOpcodeOk p opc = true)
    (hm : row.matchesWord (packR 0b0110011 rd funct3 rs1 rs2 funct7)) :
    ∃ row ∈ opcodeTable p, row.op = op ∧ row.matchesWord (packR opc.bits rd funct3 rs1 rs2 funct7) := by
  cases opc with
  | op => exact ⟨row, by simp [opcodeTable, h], ho, hm⟩
  | zero =>
    simp only [rOpcodeOk, decide_eq_true_eq] at hp
    refine ⟨{ row with pattern := row.pattern &&& 0xFFFFFF80 }, ?_, ho, ?_⟩
    · simp only [opcodeTable, tableOpcodeZero, hp, List.mem_append, List.mem_map]
      exact .inl (.inl (.inl (.inl (.inr ⟨row, h, rfl⟩))))
    · simp only [TableRow.matchesWord, ROpcode.bits] at hm ⊢
      rw [packR_zero, BitVec.and_assoc, BitVec.and_comm 0xFFFFFF80, ← BitVec.and_assoc, hm]

/-- The upper immediate of an I-type word, as an integer. -/
theorem packI_upper (opcode : Opcode) (rd : RegIndex) (funct3 : Funct3) (rs1 : RegIndex) (imm : Int) :
    ((extract (packI opcode rd funct3 rs1 (.ofInt 12 imm)) 25 7).toNat : Int) = imm % 2 ^ 12 / 2 ^ 5 := by
  have h : extract (packI opcode rd funct3 rs1 (.ofInt 12 imm)) 25 7 = (BitVec.ofInt 12 imm).extractLsb' 5 7 := by
    ext i hi; simp [extract, packI]; grind
  rw [h, BitVec.extractLsb'_toNat, Nat.shiftRight_eq_div_pow, BitVec.toNat_ofInt]
  omega

theorem srli_upper {opcode : Opcode} {rd : RegIndex} {funct3 : Funct3} {rs1 : RegIndex} {imm : Int}
    (h : 0 ≤ imm ∧ imm ≤ 31) : extract (packI opcode rd funct3 rs1 (.ofInt 12 imm)) 25 7 = 0 := by
  apply BitVec.eq_of_toNat_eq
  have := packI_upper opcode rd funct3 rs1 imm
  simp; omega

theorem srai_upper {opcode : Opcode} {rd : RegIndex} {funct3 : Funct3} {rs1 : RegIndex} {imm : Int}
    (h : 1024 ≤ imm ∧ imm ≤ 1055) : extract (packI opcode rd funct3 rs1 (.ofInt 12 imm)) 25 7 = 32 := by
  apply BitVec.eq_of_toNat_eq
  have := packI_upper opcode rd funct3 rs1 imm
  simp; omega

/-! One lemma per instruction. -/

theorem add (opc : ROpcode) (rd rs1 rs2 : RegIndex) : Statement (.add opc rd rs1 rs2) := by
  refine ⟨nofun, fun p h => ?_⟩
  simp only [Instr.wellFormed, Bool.or_eq_true, decide_eq_true_eq] at h
  by_cases hp : rOpcodeOk p opc = true
  · exact rowR (row := ⟨.ADD, "ADD", 0x00000033, 0xFE00707F⟩) (by simp [tableR]) rfl hp
      ((matches_funct7 (by decide)).2 (by simp [extract_ofNat]))
  · obtain ⟨rfl, rfl, rfl⟩ := h.resolve_left hp
    cases opc with
    | op => exact absurd rfl hp
    | zero =>
      cases p with
      | mk opc0 shift sep =>
        cases opc0 with
        | zeroWordOnly =>
          exact row (row := ⟨.ADD, "ADD", 0x00000000, 0xFFFFFFFF⟩)
            (by simp [opcodeTable, tableOpcodeZero]) rfl rfl
        | rAll => exact absurd rfl hp
theorem sub (opc : ROpcode) (rd rs1 rs2 : RegIndex) : Statement (.sub opc rd rs1 rs2) :=
  ⟨nofun, fun _ h => rowR (row := ⟨.SUB, "SUB", 0x40000033, 0xFE00707F⟩) (by simp [tableR]) rfl h
    ((matches_funct7 (by decide)).2 (by simp [extract_ofNat]))⟩
theorem sll (opc : ROpcode) (rd rs1 rs2 : RegIndex) (funct7 : Funct7) : Statement (.sll opc rd rs1 rs2 funct7) :=
  ⟨nofun, fun _ h => rowR (row := ⟨.SLL, "SLL", 0x00001033, 0x0000707F⟩) (by simp [tableR]) rfl h
    ((matches_funct3 (by decide)).2 (by simp [extract_ofNat]))⟩
theorem slt (opc : ROpcode) (rd rs1 rs2 : RegIndex) (funct7 : Funct7) : Statement (.slt opc rd rs1 rs2 funct7) :=
  ⟨nofun, fun _ h => rowR (row := ⟨.SLT, "SLT", 0x00002033, 0x0000707F⟩) (by simp [tableR]) rfl h
    ((matches_funct3 (by decide)).2 (by simp [extract_ofNat]))⟩
theorem sltu (opc : ROpcode) (rd rs1 rs2 : RegIndex) (funct7 : Funct7) : Statement (.sltu opc rd rs1 rs2 funct7) :=
  ⟨nofun, fun _ h => rowR (row := ⟨.SLTU, "SLTU", 0x00003033, 0x0000707F⟩) (by simp [tableR]) rfl h
    ((matches_funct3 (by decide)).2 (by simp [extract_ofNat]))⟩
theorem xor (opc : ROpcode) (rd rs1 rs2 : RegIndex) (funct7 : Funct7) : Statement (.xor opc rd rs1 rs2 funct7) :=
  ⟨nofun, fun _ h => rowR (row := ⟨.XOR, "XOR", 0x00004033, 0x0000707F⟩) (by simp [tableR]) rfl h
    ((matches_funct3 (by decide)).2 (by simp [extract_ofNat]))⟩
theorem srl (opc : ROpcode) (rd rs1 rs2 : RegIndex) : Statement (.srl opc rd rs1 rs2) :=
  ⟨nofun, fun _ h => rowR (row := ⟨.SRL, "SRL", 0x00005033, 0xFE00707F⟩) (by simp [tableR]) rfl h
    ((matches_funct7 (by decide)).2 (by simp [extract_ofNat]))⟩
theorem sra (opc : ROpcode) (rd rs1 rs2 : RegIndex) : Statement (.sra opc rd rs1 rs2) :=
  ⟨nofun, fun _ h => rowR (row := ⟨.SRA, "SRA", 0x40005033, 0xFE00707F⟩) (by simp [tableR]) rfl h
    ((matches_funct7 (by decide)).2 (by simp [extract_ofNat]))⟩
theorem or (opc : ROpcode) (rd rs1 rs2 : RegIndex) (funct7 : Funct7) : Statement (.or opc rd rs1 rs2 funct7) :=
  ⟨nofun, fun _ h => rowR (row := ⟨.OR, "OR", 0x00006033, 0x0000707F⟩) (by simp [tableR]) rfl h
    ((matches_funct3 (by decide)).2 (by simp [extract_ofNat]))⟩
theorem and (opc : ROpcode) (rd rs1 rs2 : RegIndex) (funct7 : Funct7) : Statement (.and opc rd rs1 rs2 funct7) :=
  ⟨nofun, fun _ h => rowR (row := ⟨.AND, "AND", 0x00007033, 0x0000707F⟩) (by simp [tableR]) rfl h
    ((matches_funct3 (by decide)).2 (by simp [extract_ofNat]))⟩
theorem jalr (rd : RegIndex) (funct3 : Funct3) (rs1 : RegIndex) (imm : Int) : Statement (.jalr rd funct3 rs1 imm) :=
  ⟨nofun, fun _ _ => row (row := ⟨.JALR, "JALR", 0x00000067, 0x0000007F⟩) (by simp [opcodeTable, tableI]) rfl
    ((matches_opcode (by decide)).2 (by simp [encode, extract_ofNat]))⟩
theorem lb (rd rs1 : RegIndex) (imm : Int) : Statement (.lb rd rs1 imm) :=
  ⟨nofun, fun _ _ => row (row := ⟨.LB, "LB", 0x00000003, 0x0000707F⟩) (by simp [opcodeTable, tableI]) rfl
    ((matches_funct3 (by decide)).2 (by simp [encode, extract_ofNat]))⟩
theorem lh (rd rs1 : RegIndex) (imm : Int) : Statement (.lh rd rs1 imm) :=
  ⟨nofun, fun _ _ => row (row := ⟨.LH, "LH", 0x00001003, 0x0000707F⟩) (by simp [opcodeTable, tableI]) rfl
    ((matches_funct3 (by decide)).2 (by simp [encode, extract_ofNat]))⟩
theorem lw (rd rs1 : RegIndex) (imm : Int) : Statement (.lw rd rs1 imm) :=
  ⟨nofun, fun _ _ => row (row := ⟨.LW, "LW", 0x00002003, 0x0000707F⟩) (by simp [opcodeTable, tableI]) rfl
    ((matches_funct3 (by decide)).2 (by simp [encode, extract_ofNat]))⟩
theorem lbu (rd rs1 : RegIndex) (imm : Int) : Statement (.lbu rd rs1 imm) :=
  ⟨nofun, fun _ _ => row (row := ⟨.LBU, "LBU", 0x00004003, 0x0000707F⟩) (by simp [opcodeTable, tableI]) rfl
    ((matches_funct3 (by decide)).2 (by simp [encode, extract_ofNat]))⟩
theorem lhu (rd rs1 : RegIndex) (imm : Int) : Statement (.lhu rd rs1 imm) :=
  ⟨nofun, fun _ _ => row (row := ⟨.LHU, "LHU", 0x00005003, 0x0000707F⟩) (by simp [opcodeTable, tableI]) rfl
    ((matches_funct3 (by decide)).2 (by simp [encode, extract_ofNat]))⟩
theorem addi (rd rs1 : RegIndex) (imm : Int) : Statement (.addi rd rs1 imm) :=
  ⟨nofun, fun _ _ => row (row := ⟨.ADDI, "ADDI", 0x00000013, 0x0000707F⟩) (by simp [opcodeTable, tableI]) rfl
    ((matches_funct3 (by decide)).2 (by simp [encode, extract_ofNat]))⟩
theorem slti (rd rs1 : RegIndex) (imm : Int) : Statement (.slti rd rs1 imm) :=
  ⟨nofun, fun _ _ => row (row := ⟨.SLTI, "SLTI", 0x00002013, 0x0000707F⟩) (by simp [opcodeTable, tableI]) rfl
    ((matches_funct3 (by decide)).2 (by simp [encode, extract_ofNat]))⟩
theorem sltiu (rd rs1 : RegIndex) (imm : Int) : Statement (.sltiu rd rs1 imm) :=
  ⟨nofun, fun _ _ => row (row := ⟨.SLTIU, "SLTU", 0x00003013, 0x0000707F⟩) (by simp [opcodeTable, tableI]) rfl
    ((matches_funct3 (by decide)).2 (by simp [encode, extract_ofNat]))⟩
theorem xori (rd rs1 : RegIndex) (imm : Int) : Statement (.xori rd rs1 imm) :=
  ⟨nofun, fun _ _ => row (row := ⟨.XORI, "XORI", 0x00004013, 0x0000707F⟩) (by simp [opcodeTable, tableI]) rfl
    ((matches_funct3 (by decide)).2 (by simp [encode, extract_ofNat]))⟩
theorem ori (rd rs1 : RegIndex) (imm : Int) : Statement (.ori rd rs1 imm) :=
  ⟨nofun, fun _ _ => row (row := ⟨.ORI, "ORI", 0x00006013, 0x0000707F⟩) (by simp [opcodeTable, tableI]) rfl
    ((matches_funct3 (by decide)).2 (by simp [encode, extract_ofNat]))⟩
theorem andi (rd rs1 : RegIndex) (imm : Int) : Statement (.andi rd rs1 imm) :=
  ⟨nofun, fun _ _ => row (row := ⟨.ANDI, "ANDI", 0x00007013, 0x0000707F⟩) (by simp [opcodeTable, tableI]) rfl
    ((matches_funct3 (by decide)).2 (by simp [encode, extract_ofNat]))⟩
theorem slli (rd rs1 : RegIndex) (imm : Int) : Statement (.slli rd rs1 imm) :=
  ⟨nofun, fun _ _ => row (row := ⟨.SLLI, "SLLI", 0x00001013, 0x0000707F⟩) (by simp [opcodeTable, tableI]) rfl
    ((matches_funct3 (by decide)).2 (by simp [encode, extract_ofNat]))⟩
theorem srli (rd rs1 : RegIndex) (imm : Int) : Statement (.srli rd rs1 imm) := by
  refine ⟨nofun, fun p h => ?_⟩
  cases p with
  | mk opc0 shift sep =>
    cases shift with
    | funct7Field =>
      simp only [Instr.wellFormed, srliImmOk, decide_eq_true_eq] at h
      exact row (row := ⟨.SRLI, "SRLI", 0x00005013, 0xFE00707F⟩) (by simp [opcodeTable, tableShiftImm]) rfl
        ((matches_funct7 (by decide)).2
          (by simp [encode, extract_ofNat, srli_upper h]))
    | wholeImm =>
      simp only [Instr.wellFormed, srliImmOk, decide_eq_true_eq] at h
      subst h
      exact row (row := ⟨.SRLI, "SRLI", 0x00005013, 0xFFF0707F⟩) (by simp [opcodeTable, tableShiftImm]) rfl
        ((matches_wholeImm (by decide)).2 (by simp [encode, extract_ofNat]))
theorem srai (rd rs1 : RegIndex) (imm : Int) : Statement (.srai rd rs1 imm) := by
  refine ⟨nofun, fun p h => ?_⟩
  cases p with
  | mk opc0 shift sep =>
    cases shift with
    | funct7Field =>
      simp only [Instr.wellFormed, sraiImmOk, decide_eq_true_eq] at h
      exact row (row := ⟨.SRAI, "SRAI", 0x40005013, 0xFE00707F⟩) (by simp [opcodeTable, tableShiftImm]) rfl
        ((matches_funct7 (by decide)).2
          (by simp [encode, extract_ofNat, srai_upper h]))
    | wholeImm =>
      simp only [Instr.wellFormed, sraiImmOk, decide_eq_true_eq] at h
      subst h
      exact row (row := ⟨.SRAI, "SRAI", 0x02005013, 0xFFF0707F⟩) (by simp [opcodeTable, tableShiftImm]) rfl
        ((matches_wholeImm (by decide)).2 (by simp [encode, extract_ofNat]))
theorem ecall (rd : RegIndex) (funct3 : Funct3) (rs1 : RegIndex) : Statement (.ecall rd funct3 rs1) :=
  ⟨nofun, fun _ _ => row (row := ⟨.ECALL, "ECALL", 0x00000073, 0xFFF0007F⟩) (by simp [opcodeTable, tableI]) rfl
    ((matches_system (by decide)).2 (by simp [encode, extract_ofNat]))⟩
theorem ebreak (rd : RegIndex) (funct3 : Funct3) (rs1 : RegIndex) : Statement (.ebreak rd funct3 rs1) :=
  ⟨nofun, fun _ _ => row (row := ⟨.EBREAK, "EBREAK", 0x00100073, 0xFFF0007F⟩) (by simp [opcodeTable, tableI]) rfl
    ((matches_system (by decide)).2 (by simp [encode, extract_ofNat]))⟩
theorem sb (rs1 rs2 : RegIndex) (imm : Int) : Statement (.sb rs1 rs2 imm) :=
  ⟨nofun, fun _ _ => row (row := ⟨.SB, "SB", 0x00000023, 0x0000707F⟩) (by simp [opcodeTable, tableSB]) rfl
    ((matches_funct3 (by decide)).2 (by simp [encode, extract_ofNat]))⟩
theorem sh (rs1 rs2 : RegIndex) (imm : Int) : Statement (.sh rs1 rs2 imm) :=
  ⟨nofun, fun _ _ => row (row := ⟨.SH, "SH", 0x00001023, 0x0000707F⟩) (by simp [opcodeTable, tableSB]) rfl
    ((matches_funct3 (by decide)).2 (by simp [encode, extract_ofNat]))⟩
theorem sw (rs1 rs2 : RegIndex) (imm : Int) : Statement (.sw rs1 rs2 imm) :=
  ⟨nofun, fun _ _ => row (row := ⟨.SW, "SW", 0x00002023, 0x0000707F⟩) (by simp [opcodeTable, tableSB]) rfl
    ((matches_funct3 (by decide)).2 (by simp [encode, extract_ofNat]))⟩
theorem beq (rs1 rs2 : RegIndex) (imm : Int) : Statement (.beq rs1 rs2 imm) :=
  ⟨nofun, fun _ _ => row (row := ⟨.BEQ, "BEQ", 0x00000063, 0x0000707F⟩) (by simp [opcodeTable, tableSB]) rfl
    ((matches_funct3 (by decide)).2 (by simp [encode, extract_ofNat]))⟩
theorem bne (rs1 rs2 : RegIndex) (imm : Int) : Statement (.bne rs1 rs2 imm) :=
  ⟨nofun, fun _ _ => row (row := ⟨.BNE, "BNE", 0x00001063, 0x0000707F⟩) (by simp [opcodeTable, tableSB]) rfl
    ((matches_funct3 (by decide)).2 (by simp [encode, extract_ofNat]))⟩
theorem blt (rs1 rs2 : RegIndex) (imm : Int) : Statement (.blt rs1 rs2 imm) :=
  ⟨nofun, fun _ _ => row (row := ⟨.BLT, "BLT", 0x00004063, 0x0000707F⟩) (by simp [opcodeTable, tableSB]) rfl
    ((matches_funct3 (by decide)).2 (by simp [encode, extract_ofNat]))⟩
theorem bge (rs1 rs2 : RegIndex) (imm : Int) : Statement (.bge rs1 rs2 imm) :=
  ⟨nofun, fun _ _ => row (row := ⟨.BGE, "BGE", 0x00005063, 0x0000707F⟩) (by simp [opcodeTable, tableSB]) rfl
    ((matches_funct3 (by decide)).2 (by simp [encode, extract_ofNat]))⟩
theorem bltu (rs1 rs2 : RegIndex) (imm : Int) : Statement (.bltu rs1 rs2 imm) :=
  ⟨nofun, fun _ _ => row (row := ⟨.BLTU, "BLTU", 0x00006063, 0x0000707F⟩) (by simp [opcodeTable, tableSB]) rfl
    ((matches_funct3 (by decide)).2 (by simp [encode, extract_ofNat]))⟩
theorem bgeu (rs1 rs2 : RegIndex) (imm : Int) : Statement (.bgeu rs1 rs2 imm) :=
  ⟨nofun, fun _ _ => row (row := ⟨.BGEU, "BGEU", 0x00007063, 0x0000707F⟩) (by simp [opcodeTable, tableSB]) rfl
    ((matches_funct3 (by decide)).2 (by simp [encode, extract_ofNat]))⟩
theorem lui (rd : RegIndex) (imm : Int) : Statement (.lui rd imm) :=
  ⟨nofun, fun _ _ => row (row := ⟨.LUI, "LUI", 0x00000037, 0x0000007F⟩) (by simp [opcodeTable, tableUJFence]) rfl
    ((matches_opcode (by decide)).2 (by simp [encode, extract_ofNat]))⟩
theorem auipc (rd : RegIndex) (imm : Int) : Statement (.auipc rd imm) :=
  ⟨nofun, fun _ _ => row (row := ⟨.AUIPC, "AUIPC", 0x00000017, 0x0000007F⟩) (by simp [opcodeTable, tableUJFence]) rfl
    ((matches_opcode (by decide)).2 (by simp [encode, extract_ofNat]))⟩
theorem jal (rd : RegIndex) (imm : Int) : Statement (.jal rd imm) :=
  ⟨nofun, fun _ _ => row (row := ⟨.JAL, "JAL", 0x0000006F, 0x0000007F⟩) (by simp [opcodeTable, tableUJFence]) rfl
    ((matches_opcode (by decide)).2 (by simp [encode, extract_ofNat]))⟩
theorem fence : Statement .fence :=
  ⟨nofun, fun _ _ => row (row := ⟨.FENCE, "FENCE", 0x0000000F, 0x0000007F⟩) (by simp [opcodeTable, tableUJFence]) rfl
    ((matches_opcode (by decide)).2 (by simp [encode, extract_ofNat]))⟩

end EncodesToRow

end Sys2Proof.Laws
end

