-- ==== Sys2Proof/Laws/Step.lean ====
section
/-! SUPPORT. Everything a step can do, said once: with no word left it is refused by name, and with a word it delivers
one output. -/

namespace Sys2Proof.Machine

variable {p : Params} {w : Word}

theorem step_of_pending {s : State} {rest : List Word} (h : s.pending = w :: rest) :
    step s = evalWord w (s.setPending rest) := by
  rw [step, takeWord_cons w h]

theorem step_of_empty {s : State} (h : s.pending = []) : step s = .refused .noWordPresented := by
  rw [step, takeWord_nil h]

/-- `decode` never makes a record whose opcode does not belong to its tag. -/
theorem decodeInstr_ne_recordOpcode : decodeInstr p w ≠ .error .recordOpcode := by
  rcases decode_cases p w with h | h | h | h | h | h | h | h | h
  all_goals obtain ⟨hd, ho⟩ := h
  all_goals first
    | (simp only [decodeInstr, hd]; split <;> simp; done)
    | rw [decodeInstr_eq (by rw [hd]; simp [parseU, parseJ, parseI, parseB, parseS, parseR]), hd]
  · rcases ho with ho | ho <;> simp [recognise, parseU, recogniseU, ho]
  · simp [recognise, parseJ, ho]
  · rcases ho with ho | ho | ho | ho <;> simp only [recognise, parseI, recogniseI, ho]
    · simp
    · simp [recogniseLoad]; split <;> simp
    · simp [recogniseAluImm]; split <;> (try simp); split <;> split_ifs <;> simp
    · simp [recogniseSystem]; split_ifs <;> simp
  · simp [recognise, parseB, ho, recogniseB]; split <;> simp
  · simp [recognise, parseS, ho, recogniseS]; split <;> simp
  · simp [recognise, parseR, ho, rOpcodeOf, recogniseR]; split <;> (try split_ifs) <;> simp
  · simp [recognise]
  · simp [recognise, parseR, ho.1, rOpcodeOf, recogniseR]; split <;> (try split_ifs) <;> simp

/-- The operation select of a word that is no instruction. -/
theorem classify_of_decodeInstr_error {e : Unrecognised} (h : decodeInstr p w = .error e) :
    classify p (decode p w) = .UNKNOWN := by
  by_cases hi : decode p w = .invalid
  · rw [hi]; rfl
  · have hne : e ≠ .recordOpcode := fun he => decodeInstr_ne_recordOpcode (he ▸ h)
    exact classify_of_unrecognised (decodeInstr_eq hi ▸ h) hne

end Sys2Proof.Machine
end

