-- ==== Sys2Proof/Tests/Slice0.lean ====
section
/-! SUPPORT. The model's own tests. Expected values are those of 95_test_vectors.md (or the rule a comment names), words
are written field by field from the layouts of 30_encoding.md R39 to R42. At the end, one witness for each statement with
hypotheses. -/

namespace Sys2Proof.Tests

open Sys2Proof.Machine Sys2Proof.Spec

/-! ### Helpers -/

/-- The three parameter choices that differ from the defaults in one value. -/
def rAll : Params := { Params.default with opc0 := .rAll }
def wholeImm : Params := { Params.default with shift := .wholeImm }
def comma : Params := { Params.default with sep := .commaSpace }

/-- An output that a small state has read back before the word under test. -/
def earlier : Output := ⟨.fence 0b0001111, .FENCE, true, "FENCE"⟩

/-- A state with one word to present, another after it, and one output already read. -/
def presenting (p : Params) (w : Word) : State := ⟨p, [w, 0x00000013], [earlier]⟩

/-- The state after a step, if it is a next state. -/
def after : Result → Option State
  | .next t    => some t
  | .fault _   => none
  | .refused _ => none

/-- The word, given in hexadecimal and field by field, decodes to the instruction, and a step on it delivers the output. -/
abbrev Shows (hex bits : Word) (i : Instr) (r : Decoded) (op : Op) (text : String) : Prop :=
  hex = bits ∧ decodeTableWord 32 hex.toNat = some i ∧ encode i = (if i = .fence then 0x0000000F else hex) ∧
    after (step (presenting .default hex)) = some ⟨.default, [0x00000013], [earlier, ⟨r, op, true, text⟩]⟩

/-- A step on the word delivers `UNKNOWN` beside the record and goes on; the decoder names the class. -/
abbrev Unknown (p : Params) (w : Word) (e : Unrecognised) (r : Decoded) : Prop :=
  decodeInstr p w = .error e ∧
    after (step (presenting p w)) = some ⟨p, [0x00000013], [earlier, ⟨r, .UNKNOWN, false, "Invalid instruction"⟩]⟩

/-- A step on the word under the parameters delivers the operation select and the text. -/
abbrev Prints (p : Params) (w : Word) (op : Op) (text : String) : Prop :=
  (evaluate p w).op = op ∧ (evaluate p w).text = text ∧
    after (step (presenting p w)) = some ⟨p, [0x00000013], [earlier, evaluate p w]⟩

/-! ### WellFormed refuses an ill-formed term, one for each check -/

theorem test_wf_imm12_above : Instr.wellFormed .default (.addi 0 0 2048) = false := by decide
theorem test_wf_imm12_below : Instr.wellFormed .default (.sw 0 0 (-2049)) = false := by decide
theorem test_wf_immB_range : Instr.wellFormed .default (.beq 0 0 4096) = false := by decide
theorem test_wf_immB_odd : Instr.wellFormed .default (.beq 0 0 3) = false := by decide
theorem test_wf_immU_range : Instr.wellFormed .default (.lui 0 524288) = false := by decide
theorem test_wf_immJ_range : Instr.wellFormed .default (.jal 0 (-1048578)) = false := by decide
theorem test_wf_immJ_odd : Instr.wellFormed .default (.jal 0 1) = false := by decide
theorem test_wf_opcode_zero : Instr.wellFormed .default (.sub .zero 0 0 0) = false := by decide
theorem test_wf_opcode_zero_add : Instr.wellFormed .default (.add .zero 1 0 0) = false := by decide
theorem test_wf_srli_key : Instr.wellFormed .default (.srli 0 0 32) = false := by decide
theorem test_wf_srai_key : Instr.wellFormed .default (.srai 0 0 0) = false := by decide
theorem test_wf_srli_key_whole : Instr.wellFormed wholeImm (.srli 0 0 31) = false := by decide
theorem test_wf_srai_key_whole : Instr.wellFormed wholeImm (.srai 0 0 1024) = false := by decide
theorem test_wf_record : Decoded.wellFormed (.bType 0b1100011 0 0 0 5) = false := by decide

/-! ### Every instruction: its word decodes to it, is its encoding, and a step prints it (95_test_vectors.md section 2) -/

theorem test_add : Shows 0x002081B3 (0b0000000#7 ++ 0b00010#5 ++ 0b00001#5 ++ 0b000#3 ++ 0b00011#5 ++ 0b0110011#7)
    (.add .op 3 1 2) (.rType 0b0110011 3 0 1 2 0) .ADD "ADD x3 x1 x2" := by decide

theorem test_sub : Shows 0x402081B3 (0b0100000#7 ++ 0b00010#5 ++ 0b00001#5 ++ 0b000#3 ++ 0b00011#5 ++ 0b0110011#7)
    (.sub .op 3 1 2) (.rType 0b0110011 3 0 1 2 32) .SUB "SUB x3 x1 x2" := by decide

theorem test_sll : Shows 0x022091B3 (0b0000001#7 ++ 0b00010#5 ++ 0b00001#5 ++ 0b001#3 ++ 0b00011#5 ++ 0b0110011#7)
    (.sll .op 3 1 2 1) (.rType 0b0110011 3 1 1 2 1) .SLL "SLL x3 x1 x2" := by decide

theorem test_slt : Shows 0xFE20A1B3 (0b1111111#7 ++ 0b00010#5 ++ 0b00001#5 ++ 0b010#3 ++ 0b00011#5 ++ 0b0110011#7)
    (.slt .op 3 1 2 127) (.rType 0b0110011 3 2 1 2 127) .SLT "SLT x3 x1 x2" := by decide

theorem test_sltu : Shows 0x0020B1B3 (0b0000000#7 ++ 0b00010#5 ++ 0b00001#5 ++ 0b011#3 ++ 0b00011#5 ++ 0b0110011#7)
    (.sltu .op 3 1 2 0) (.rType 0b0110011 3 3 1 2 0) .SLTU "SLTU x3 x1 x2" := by decide

theorem test_xor : Shows 0x0220C1B3 (0b0000001#7 ++ 0b00010#5 ++ 0b00001#5 ++ 0b100#3 ++ 0b00011#5 ++ 0b0110011#7)
    (.xor .op 3 1 2 1) (.rType 0b0110011 3 4 1 2 1) .XOR "XOR x3 x1 x2" := by decide

theorem test_srl : Shows 0x0020D1B3 (0b0000000#7 ++ 0b00010#5 ++ 0b00001#5 ++ 0b101#3 ++ 0b00011#5 ++ 0b0110011#7)
    (.srl .op 3 1 2) (.rType 0b0110011 3 5 1 2 0) .SRL "SRL x3 x1 x2" := by decide

theorem test_sra : Shows 0x4020D1B3 (0b0100000#7 ++ 0b00010#5 ++ 0b00001#5 ++ 0b101#3 ++ 0b00011#5 ++ 0b0110011#7)
    (.sra .op 3 1 2) (.rType 0b0110011 3 5 1 2 32) .SRA "SRA x3 x1 x2" := by decide

theorem test_or : Shows 0x0020E1B3 (0b0000000#7 ++ 0b00010#5 ++ 0b00001#5 ++ 0b110#3 ++ 0b00011#5 ++ 0b0110011#7)
    (.or .op 3 1 2 0) (.rType 0b0110011 3 6 1 2 0) .OR "OR x3 x1 x2" := by decide

theorem test_and : Shows 0x4020F1B3 (0b0100000#7 ++ 0b00010#5 ++ 0b00001#5 ++ 0b111#3 ++ 0b00011#5 ++ 0b0110011#7)
    (.and .op 3 1 2 32) (.rType 0b0110011 3 7 1 2 32) .AND "AND x3 x1 x2" := by decide

theorem test_jalr : Shows 0x010372E7 (0b000000010000#12 ++ 0b00110#5 ++ 0b111#3 ++ 0b00101#5 ++ 0b1100111#7)
    (.jalr 5 7 6 16) (.iType 0b1100111 5 7 6 16) .JALR "JALR x5 x6 16" := by decide

theorem test_lb : Shows 0x00810503 (0b000000001000#12 ++ 0b00010#5 ++ 0b000#3 ++ 0b01010#5 ++ 0b0000011#7)
    (.lb 10 2 8) (.iType 0b0000011 10 0 2 8) .LB "LB x10 8(x2)" := by decide

theorem test_lh : Shows 0x00811503 (0b000000001000#12 ++ 0b00010#5 ++ 0b001#3 ++ 0b01010#5 ++ 0b0000011#7)
    (.lh 10 2 8) (.iType 0b0000011 10 1 2 8) .LH "LH x10 8(x2)" := by decide

theorem test_lw : Shows 0xFFF02003 (0b111111111111#12 ++ 0b00000#5 ++ 0b010#3 ++ 0b00000#5 ++ 0b0000011#7)
    (.lw 0 0 (-1)) (.iType 0b0000011 0 2 0 (-1)) .LW "LW x0 -1(x0)" := by decide

theorem test_lbu : Shows 0x80054503 (0b100000000000#12 ++ 0b01010#5 ++ 0b100#3 ++ 0b01010#5 ++ 0b0000011#7)
    (.lbu 10 10 (-2048)) (.iType 0b0000011 10 4 10 (-2048)) .LBU "LBU x10 -2048(x10)" := by decide

theorem test_lhu : Shows 0x00815503 (0b000000001000#12 ++ 0b00010#5 ++ 0b101#3 ++ 0b01010#5 ++ 0b0000011#7)
    (.lhu 10 2 8) (.iType 0b0000011 10 5 2 8) .LHU "LHU x10 8(x2)" := by decide

theorem test_addi : Shows 0xFFB30293 (0b111111111011#12 ++ 0b00110#5 ++ 0b000#3 ++ 0b00101#5 ++ 0b0010011#7)
    (.addi 5 6 (-5)) (.iType 0b0010011 5 0 6 (-5)) .ADDI "ADDI x5 x6 -5" := by decide

theorem test_slti : Shows 0xFFB32293 (0b111111111011#12 ++ 0b00110#5 ++ 0b010#3 ++ 0b00101#5 ++ 0b0010011#7)
    (.slti 5 6 (-5)) (.iType 0b0010011 5 2 6 (-5)) .SLTI "SLTI x5 x6 -5" := by decide

theorem test_sltiu : Shows 0xFFB33293 (0b111111111011#12 ++ 0b00110#5 ++ 0b011#3 ++ 0b00101#5 ++ 0b0010011#7)
    (.sltiu 5 6 (-5)) (.iType 0b0010011 5 3 6 (-5)) .SLTIU "SLTU x5 x6 -5" := by decide

theorem test_xori : Shows 0xFFB34293 (0b111111111011#12 ++ 0b00110#5 ++ 0b100#3 ++ 0b00101#5 ++ 0b0010011#7)
    (.xori 5 6 (-5)) (.iType 0b0010011 5 4 6 (-5)) .XORI "XORI x5 x6 -5" := by decide

theorem test_ori : Shows 0xFFB36293 (0b111111111011#12 ++ 0b00110#5 ++ 0b110#3 ++ 0b00101#5 ++ 0b0010011#7)
    (.ori 5 6 (-5)) (.iType 0b0010011 5 6 6 (-5)) .ORI "ORI x5 x6 -5" := by decide

theorem test_andi : Shows 0xFFB37293 (0b111111111011#12 ++ 0b00110#5 ++ 0b111#3 ++ 0b00101#5 ++ 0b0010011#7)
    (.andi 5 6 (-5)) (.iType 0b0010011 5 7 6 (-5)) .ANDI "ANDI x5 x6 -5" := by decide

theorem test_slli : Shows 0x7E331293 (0b011111100011#12 ++ 0b00110#5 ++ 0b001#3 ++ 0b00101#5 ++ 0b0010011#7)
    (.slli 5 6 2019) (.iType 0b0010011 5 1 6 2019) .SLLI "SLLI x5 x6 3" := by decide

theorem test_srli : Shows 0x01F35293 (0b000000011111#12 ++ 0b00110#5 ++ 0b101#3 ++ 0b00101#5 ++ 0b0010011#7)
    (.srli 5 6 31) (.iType 0b0010011 5 5 6 31) .SRLI "SRLI x5 x6 31" := by decide

theorem test_srai : Shows 0x40735293 (0b010000000111#12 ++ 0b00110#5 ++ 0b101#3 ++ 0b00101#5 ++ 0b0010011#7)
    (.srai 5 6 1031) (.iType 0b0010011 5 5 6 1031) .SRAI "SRAI x5 x6 7" := by decide

theorem test_ecall : Shows 0x000FFFF3 (0b000000000000#12 ++ 0b11111#5 ++ 0b111#3 ++ 0b11111#5 ++ 0b1110011#7)
    (.ecall 31 7 31) (.iType 0b1110011 31 7 31 0) .ECALL "ECALL" := by decide

theorem test_ebreak : Shows 0x001522F3 (0b000000000001#12 ++ 0b01010#5 ++ 0b010#3 ++ 0b00101#5 ++ 0b1110011#7)
    (.ebreak 5 2 10) (.iType 0b1110011 5 2 10 1) .EBREAK "EBREAK" := by decide

theorem test_sb : Shows 0x81FF8023 (0b1000000#7 ++ 0b11111#5 ++ 0b11111#5 ++ 0b000#3 ++ 0b00000#5 ++ 0b0100011#7)
    (.sb 31 31 (-2048)) (.sType 0b0100011 0 31 31 (-2048)) .SB "SB x31 -2048(x31)" := by decide

theorem test_sh : Shows 0x7FFF9FA3 (0b0111111#7 ++ 0b11111#5 ++ 0b11111#5 ++ 0b001#3 ++ 0b11111#5 ++ 0b0100011#7)
    (.sh 31 31 2047) (.sType 0b0100011 1 31 31 2047) .SH "SH x31 2047(x31)" := by decide

theorem test_sw : Shows 0xFEA12C23 (0b1111111#7 ++ 0b01010#5 ++ 0b00010#5 ++ 0b010#3 ++ 0b11000#5 ++ 0b0100011#7)
    (.sw 2 10 (-8)) (.sType 0b0100011 2 2 10 (-8)) .SW "SW x10 -8(x2)" := by decide

theorem test_beq : Shows 0x00208863 (0b0#1 ++ 0b000000#6 ++ 0b00010#5 ++ 0b00001#5 ++ 0b000#3 ++ 0b1000#4 ++ 0b0#1 ++ 0b1100011#7)
    (.beq 1 2 16) (.bType 0b1100011 0 1 2 16) .BEQ "BEQ x1 x2 16" := by decide

theorem test_bne : Shows 0xFE029AE3 (0b1#1 ++ 0b111111#6 ++ 0b00000#5 ++ 0b00101#5 ++ 0b001#3 ++ 0b1010#4 ++ 0b1#1 ++ 0b1100011#7)
    (.bne 5 0 (-12)) (.bType 0b1100011 1 5 0 (-12)) .BNE "BNE x5 x0 -12" := by decide

theorem test_blt : Shows 0x7FFFCFE3 (0b0#1 ++ 0b111111#6 ++ 0b11111#5 ++ 0b11111#5 ++ 0b100#3 ++ 0b1111#4 ++ 0b1#1 ++ 0b1100011#7)
    (.blt 31 31 4094) (.bType 0b1100011 4 31 31 4094) .BLT "BLT x31 x31 4094" := by decide

theorem test_bge : Shows 0xFE115FE3 (0b1#1 ++ 0b111111#6 ++ 0b00001#5 ++ 0b00010#5 ++ 0b101#3 ++ 0b1111#4 ++ 0b1#1 ++ 0b1100011#7)
    (.bge 2 1 (-2)) (.bType 0b1100011 5 2 1 (-2)) .BGE "BGE x2 x1 -2" := by decide

theorem test_bltu : Shows 0x0020E863 (0b0#1 ++ 0b000000#6 ++ 0b00010#5 ++ 0b00001#5 ++ 0b110#3 ++ 0b1000#4 ++ 0b0#1 ++ 0b1100011#7)
    (.bltu 1 2 16) (.bType 0b1100011 6 1 2 16) .BLTU "BLTU x1 x2 16" := by decide

theorem test_bgeu : Shows 0x80A57063 (0b1#1 ++ 0b000000#6 ++ 0b01010#5 ++ 0b01010#5 ++ 0b111#3 ++ 0b0000#4 ++ 0b0#1 ++ 0b1100011#7)
    (.bgeu 10 10 (-4096)) (.bType 0b1100011 7 10 10 (-4096)) .BGEU "BGEU x10 x10 -4096" := by decide

theorem test_lui : Shows 0xFFFFFFB7 (0b11111111111111111111#20 ++ 0b11111#5 ++ 0b0110111#7)
    (.lui 31 (-1)) (.uType 0b0110111 31 (-1)) .LUI "LUI x31 -1" := by decide

theorem test_auipc : Shows 0xABCDE797 (0b10101011110011011110#20 ++ 0b01111#5 ++ 0b0010111#7)
    (.auipc 15 (-344866)) (.uType 0b0010111 15 (-344866)) .AUIPC "AUIPC x15 -344866" := by decide

theorem test_jal : Shows 0x344122EF (0b0#1 ++ 0b0110100010#10 ++ 0b0#1 ++ 0b00010010#8 ++ 0b00101#5 ++ 0b1101111#7)
    (.jal 5 74564) (.jType 0b1101111 5 74564) .JAL "JAL x5 74564" := by decide

theorem test_fence : Shows 0x8330000F (0b1000001100110000000000000#25 ++ 0b0001111#7)
    (.fence) (.fence 0b0001111) .FENCE "FENCE" := by decide

/-- The second ADD row of the table: the zero word (95 section 1, source 4.2). -/
theorem test_add_zero_word : Shows 0x00000000 (0b0000000#7 ++ 0b00000#5 ++ 0b00000#5 ++ 0b000#3 ++ 0b00000#5 ++ 0b0000000#7)
    (.add .zero 0 0 0) (.rType 0 0 0 0 0 0) .ADD "ADD x0 x0 x0" := by decide

/-! ### The source's own examples (95 section 1) -/

theorem test_source_addi : Prints .default 0x00000013 .ADDI "ADDI x0 x0 0" := by decide
theorem test_source_ebreak : Prints .default 0x00100073 .EBREAK "EBREAK" := by decide
theorem test_source_jal : Prints .default 0x0000006F .JAL "JAL x0 0" := by decide
theorem test_source_add : Prints .default 0x00000033 .ADD "ADD x0 x0 x0" := by decide
theorem test_source_sub : Prints .default 0x40000033 .SUB "SUB x0 x0 x0" := by decide
theorem test_source_fence : Prints .default 0x0000000F .FENCE "FENCE" := by decide

/-! ### The nine classes of 30_encoding.md R55 (words of 95 section 2) -/

theorem test_unknown_opcode : Unknown .default 0xFFFFFFFF .opcode .invalid := by decide
theorem test_unknown_opcode_zero : Unknown .default 0x00000080 .opcodeZero .invalid := by decide
theorem test_unknown_add_funct7 : Unknown .default 0x022081B3 .addFunct7 (.rType 0b0110011 3 0 1 2 1) := by decide
theorem test_unknown_shift_funct7 : Unknown .default 0x4220D1B3 .shiftFunct7 (.rType 0b0110011 3 5 1 2 33) := by decide
theorem test_unknown_load : Unknown .default 0x00813503 .loadFunct3 (.iType 0b0000011 10 3 2 8) := by decide
theorem test_unknown_shift_imm : Unknown .default 0xC0035293 .shiftImm (.iType 0b0010011 5 5 6 (-1024)) := by decide
theorem test_unknown_system : Unknown .default 0x30200073 .systemImm (.iType 0b1110011 0 0 0 770) := by decide
theorem test_unknown_store : Unknown .default 0x00A13623 .storeFunct3 (.sType 0b0100011 3 2 10 12) := by decide
theorem test_unknown_branch : Unknown .default 0x0020A863 .branchFunct3 (.bType 0b1100011 2 1 2 16) := by decide

/-! ### The other value of each parameter (95 sections 2.4, 2.8 and 5) -/

theorem test_whole_imm_srai : Prints wholeImm 0x02035293 .SRAI "SRAI x5 x6 0" := by decide
theorem test_whole_imm_srli : Prints wholeImm 0x00035293 .SRLI "SRLI x5 x6 0" := by decide
theorem test_whole_imm_unknown : Unknown wholeImm 0x40735293 .shiftImm (.iType 0b0010011 5 5 6 1031) := by decide
theorem test_r_all_sub : Prints rAll 0x40000000 .SUB "SUB x0 x0 x0" := by decide
theorem test_r_all_add : Prints rAll 0x00208180 .ADD "ADD x3 x1 x2" := by decide
theorem test_r_all_unknown : Unknown rAll 0x02000000 .addFunct7 (.rType 0 0 0 0 0 1) := by decide
theorem test_comma_add : Prints comma 0x00000033 .ADD "ADD x0, x0, x0" := by decide
theorem test_comma_sw : Prints comma 0xFEA12C23 .SW "SW x10, -8(x2)" := by decide
theorem test_comma_srai : Prints comma 0x40735293 .SRAI "SRAI x5, x6, 7" := by decide
theorem test_comma_lui : Prints comma 0x123452B7 .LUI "LUI x5, 74565" := by decide
theorem test_comma_unknown : Prints comma 0x0000007F .UNKNOWN "Invalid instruction" := by decide

/-! ### The Field Extractor (95 section 2.1) and the extremes of the immediates (95 section 2.2) -/

theorem test_extract_whole : extract 0xFFFFFFFF 0 32 = 4294967295 := by decide
theorem test_extract_funct3 : extract 0x12345678 12 3 = 5 := by decide
theorem test_extract_upper : extract 0x12345678 12 20 = 74565 := by decide
theorem test_extract_top : extract 0x80000000 31 1 = 1 ∧ extract 0x80000000 0 31 = 0 := by decide
theorem test_imm_b_bit7 : immB 0x000000E3 = 2048 ∧ immB 0x00000163 = 2 ∧ immB 0x40000063 = 1024 := by decide
theorem test_imm_j_pieces : immJ 0x0010006F = 2048 ∧ immJ 0x0000106F = 4096 ∧ immJ 0x0008006F = 524288 := by decide
theorem test_imm_s_pieces : immS 0x00000FA3 = 31 ∧ immS 0x02000023 = 32 ∧ immS 0x80000023 = -2048 := by decide

/-! ### Records that `decode` never returns (95 section 2.9) -/

theorem test_record_i : format .default (.iType 0b0110011 1 0 2 3) = "Invalid instruction" := by decide
theorem test_record_u : classify .default (.uType 0b0000000 1 5) = .UNKNOWN := by decide
theorem test_record_r : format .default (.rType 0b1111111 3 0 1 2 0) = "ADD x3 x1 x2" := by decide
theorem test_record_s : format .default (.sType 0b0000000 2 2 10 (-8)) = "SW x10 -8(x2)" := by decide
theorem test_record_j : format .default (.jType 0b0000000 1 8) = "JAL x1 8" := by decide
theorem test_record_fence : classify .default (.fence 0b0000000) = .FENCE := by decide

/-! ### The port-level view (95 section 7) -/

theorem test_ports_r : (evaluate .default 0x002081B3).ports =
    ⟨0, some 0b0110011, some 3, some 0, some 1, some 2, some 0, none, true⟩ := by decide
theorem test_ports_i : (evaluate .default 0xFFB30293).ports =
    ⟨1, some 0b0010011, some 5, some 0, some 6, none, none, some 0xFFFFFFFB, true⟩ := by decide
theorem test_ports_s : (evaluate .default 0xFEA12C23).ports =
    ⟨2, some 0b0100011, none, some 2, some 2, some 10, none, some 0xFFFFFFF8, true⟩ := by decide
theorem test_ports_b : (evaluate .default 0xFE029AE3).ports =
    ⟨3, some 0b1100011, none, some 1, some 5, some 0, none, some 0xFFFFFFF4, true⟩ := by decide
theorem test_ports_u : (evaluate .default 0xFFFFFFB7).ports =
    ⟨4, some 0b0110111, some 31, none, none, none, none, some 0xFFFFFFFF, true⟩ := by decide
theorem test_ports_j : (evaluate .default 0x80000FEF).ports =
    ⟨5, some 0b1101111, some 31, none, none, none, none, some 0xFFF00000, true⟩ := by decide
theorem test_ports_fence : (evaluate .default 0x0FF0000F).ports =
    ⟨6, some 0b0001111, none, none, none, none, none, none, true⟩ := by decide
theorem test_ports_invalid : (evaluate .default 0xFFFFFFFF).ports =
    ⟨7, none, none, none, none, none, none, none, false⟩ := by decide

/-! ### The step -/

/-- With no word left the run is over (70_reset_and_hazards.md R160). -/
theorem test_run_over : step State.reset = .refused .noWordPresented := rfl

/-! ### Witnesses: for every statement with hypotheses, operands and states that meet them, clause by clause -/

theorem witness_ExtractIsTheSlice :
    (1 ≤ 32 ∧ 0 + 32 ≤ 32) ∧ (1 ≤ 1 ∧ 31 + 1 ≤ 32) ∧ 31 < 32 := by decide
theorem witness_ExtractLaws : (1 ≤ 1 ∧ 1 ≤ 31 ∧ 0 + (1 + 31) ≤ 32) ∧ (1 ≤ 7 ∧ 1 ≤ 5 ∧ 20 + (7 + 5) ≤ 32) := by decide
theorem witness_ImmediateProperties :
    (immI 0x80000013 = -2048 ∧ immS 0x7E000FA3 = 2047) ∧ (immB 0x80000063 = -4096 ∧ immB 0x7E000FE3 = 4094) ∧
      (immU 0x80000037 = -524288 ∧ immU 0x7FFFF037 = 524287) ∧
      immJ 0x8000006F = -1048576 ∧ immJ 0x7FFFF06F = 1048574 := by decide
theorem witness_SignFillsEveryHigherBit : 11 < 32 ∧ 31 < 32 ∧ 11 ≤ 11 ∧ 12 ≤ 12 ∧ 19 ≤ 31 ∧ 20 ≤ 20 := by decide
theorem witness_DecodedRecordOfEveryWord :
    opcode 0x00001017 = 0b0010111 ∧ opcode 0x80000FEF = 0b1101111 ∧ opcode 0x00200073 = 0b1110011 ∧
      opcode 0x0020A863 = 0b1100011 ∧ opcode 0x00A13623 = 0b0100011 ∧ opcode 0x022081B3 = 0b0110011 ∧
      opcode 0xFFFFFF8F = 0b0001111 ∧ (opcode 0x00000080 = 0 ∧ rAll.opc0 = .rAll) ∧
      (opcode 0x00000080 = 0 ∧ (0x00000080 : Word) ≠ 0 ∧ Params.default.opc0 = .zeroWordOnly) ∧
      opcode 0x0000007F ∉ listedOpcodes ∧ opcode 0x0000007F ≠ 0 := by decide
theorem witness_ZeroWordIsAdd :
    Params.default.sep = .space ∧ opcode 0x00000080 = 0 ∧ (0x00000080 : Word) ≠ 0 ∧
      Params.default.opc0 = .zeroWordOnly ∧ rAll.opc0 = .rAll ∧
      (presenting rAll 0).params = rAll ∧ (presenting rAll 0).pending = [0, 0x00000013] := by decide
theorem witness_RecordDeterminesTheWord :
    ((decode .default 0x022081B3).tag ≠ .FENCE ∧ (decode .default 0x022081B3).tag ≠ .INVALID) ∧
      ((decode .default 0x0000000F).tag = .FENCE ∧ (decode .default 0xFFFFFF8F).tag = .FENCE) ∧
      (decode .default 0x0000007F).tag = .INVALID ∧ (decode .default 0x00000080).tag = .INVALID := by decide
theorem witness_DecodeOfEncode :
    Instr.wellFormed .default (.add .zero 0 0 0) = true ∧ Instr.wellFormed rAll (.sra .zero 31 0 31) = true ∧
      Instr.wellFormed .default (.addi 31 0 (-2048)) = true ∧ Instr.wellFormed .default (.srai 1 2 1055) = true ∧
      Instr.wellFormed wholeImm (.srai 1 2 32) = true ∧ Instr.wellFormed .default (.bgeu 1 2 4094) = true ∧
      Instr.wellFormed .default (.lui 1 524287) = true ∧ Instr.wellFormed .default (.jal 1 (-1048576)) = true := by decide
theorem witness_EncodeOfDecode :
    decodeInstr .default 0x40735293 = .ok (.srai 5 6 1031) ∧ decodeInstr .default 0xFFFFFF8F = .ok .fence := by decide

/-- The words of the R-type statement, and a state that meets the hypotheses of `Gives`. -/
theorem witness_RTypeRows :
    (0x01FF8FB3 : Word) &&& 0xFE00707F = 0x00000033 ∧ (0x402081B3 : Word) &&& 0xFE00707F = 0x40000033 ∧
      (0x022091B3 : Word) &&& 0x0000707F = 0x00001033 ∧ (0xFE20A1B3 : Word) &&& 0x0000707F = 0x00002033 ∧
      (0x0020B1B3 : Word) &&& 0x0000707F = 0x00003033 ∧ (0x0220C1B3 : Word) &&& 0x0000707F = 0x00004033 ∧
      (0x0020D1B3 : Word) &&& 0xFE00707F = 0x00005033 ∧ (0x4020D1B3 : Word) &&& 0xFE00707F = 0x40005033 ∧
      (0x0020E1B3 : Word) &&& 0x0000707F = 0x00006033 ∧ (0x4020F1B3 : Word) &&& 0x0000707F = 0x00007033 ∧
      (opcode 0xFE2081B3 = 0b0110011 ∧ funct3 0xFE2081B3 = 0b000 ∧ funct7 0xFE2081B3 = 127) ∧
      (opcode 0x4220D1B3 = 0b0110011 ∧ funct3 0x4220D1B3 = 0b101 ∧ funct7 0x4220D1B3 = 33) ∧
      classify .default (.rType 0 0 0 0 0 1) = .UNKNOWN ∧
      (presenting comma 0x01FF8FB3).params = comma ∧ (presenting comma 0x01FF8FB3).pending = [0x01FF8FB3, 0x00000013] := by
  decide
theorem witness_JalrAndLoadRows :
    (0x010372E7 : Word) &&& 0x0000007F = 0x00000067 ∧ (0x00810503 : Word) &&& 0x0000707F = 0x00000003 ∧
      (0x00811503 : Word) &&& 0x0000707F = 0x00001003 ∧ (0xFFF02003 : Word) &&& 0x0000707F = 0x00002003 ∧
      (0x80054503 : Word) &&& 0x0000707F = 0x00004003 ∧ (0x00815503 : Word) &&& 0x0000707F = 0x00005003 ∧
      (opcode 0x00813503 = 0b0000011 ∧ funct3 0x00813503 = 0b011) ∧ funct3 0x00816503 = 0b110 ∧
      funct3 0x00817503 = 0b111 := by decide
theorem witness_RegisterImmediateRows :
    (0x800F8F93 : Word) &&& 0x0000707F = 0x00000013 ∧ (0xFFB32293 : Word) &&& 0x0000707F = 0x00002013 ∧
      (0xFFF0B093 : Word) &&& 0x0000707F = 0x00003013 ∧ (0xFFB34293 : Word) &&& 0x0000707F = 0x00004013 ∧
      (0xFFB36293 : Word) &&& 0x0000707F = 0x00006013 ∧ (0xFFB37293 : Word) &&& 0x0000707F = 0x00007013 := by decide
theorem witness_ShiftImmediateRows :
    (0xFFF31293 : Word) &&& 0x0000707F = 0x00001013 ∧
      (Params.default.shift = .funct7Field ∧ (0x01F35293 : Word) &&& 0xFE00707F = 0x00005013 ∧
        (0x41F35293 : Word) &&& 0xFE00707F = 0x40005013 ∧
        opcode 0x02035293 = 0b0010011 ∧ funct3 0x02035293 = 0b101 ∧ funct7 0x02035293 = 1) ∧
      (wholeImm.shift = .wholeImm ∧ (0x00035293 : Word) &&& 0xFFF0707F = 0x00005013 ∧
        (0x02035293 : Word) &&& 0xFFF0707F = 0x02005013 ∧
        opcode 0x02135293 = 0b0010011 ∧ funct3 0x02135293 = 0b101 ∧ patI 0x02135293 = 33) ∧
      classify wholeImm (.iType 0b0010011 5 0b101 6 31) = .UNKNOWN := by decide
theorem witness_SystemRows :
    (0x000FFFF3 : Word) &&& 0xFFF0007F = 0x00000073 ∧ (0x001522F3 : Word) &&& 0xFFF0007F = 0x00100073 ∧
      opcode 0x00200073 = 0b1110011 ∧ patI 0x00200073 = 2 ∧ patI 0xFFF00073 = 0xFFF := by decide
theorem witness_StoreRows :
    (0x81FF8023 : Word) &&& 0x0000707F = 0x00000023 ∧ (0x7FFF9FA3 : Word) &&& 0x0000707F = 0x00001023 ∧
      (0xFEA12C23 : Word) &&& 0x0000707F = 0x00002023 ∧ opcode 0x00A13623 = 0b0100011 ∧
      0b011 ≤ funct3 0x00A13623 ∧ 0b011 ≤ funct3 0x00A17623 := by decide
theorem witness_BranchRows :
    (0x00208863 : Word) &&& 0x0000707F = 0x00000063 ∧ (0xFE029AE3 : Word) &&& 0x0000707F = 0x00001063 ∧
      (0x7FFFCFE3 : Word) &&& 0x0000707F = 0x00004063 ∧ (0xFE115FE3 : Word) &&& 0x0000707F = 0x00005063 ∧
      (0x0020E863 : Word) &&& 0x0000707F = 0x00006063 ∧ (0x80A57063 : Word) &&& 0x0000707F = 0x00007063 ∧
      opcode 0x0020A863 = 0b1100011 ∧ funct3 0x0020A863 = 0b010 ∧ funct3 0x0020B863 = 0b011 := by decide
theorem witness_UpperImmediateAndJumpRows :
    (0xFFFFFFB7 : Word) &&& 0x0000007F = 0x00000037 ∧ (0xABCDE797 : Word) &&& 0x0000007F = 0x00000017 ∧
      (0x80000FEF : Word) &&& 0x0000007F = 0x0000006F := by decide
theorem witness_TerminalVariants :
    (0xFFFFFF8F : Word) &&& 0x0000007F = 0x0000000F ∧
      (opcode 0xFFFFFFFF ∉ listedOpcodes ∧ ¬opcode 0xFFFFFFFF = 0) ∧
      (opcode 0x00000080 ∉ listedOpcodes ∧ ¬((0x00000080 : Word) = 0 ∨ Params.default.opc0 = .rAll)) ∧
      (evaluate .default 0x022081B3).op = .UNKNOWN := by decide
theorem witness_OpcodeTableIsTheOperationSelect :
    Op.SRAI ≠ .UNKNOWN ∧ classify wholeImm (decode wholeImm 0x02035293) = .SRAI := by decide
theorem witness_RowsPrintTheirMnemonic :
    (⟨.SLTIU, "SLTU", 0x00003013, 0x0000707F⟩ : TableRow) ∈ opcodeTable .default ∧
      (0xFFF0B093 : Word) &&& 0x0000707F = 0x00003013 ∧
      (⟨.ADD, "ADD", 0x00000000, 0xFFFFFFFF⟩ : TableRow) ∈ opcodeTable .default ∧
      (0 : Word) &&& 0xFFFFFFFF = 0x00000000 := by decide
theorem witness_UnknownWordsAreTheNineClasses :
    decodeInstr .default 0x0000007F = .error .opcode ∧ decodeInstr .default 0x00208180 = .error .opcodeZero ∧
      decodeInstr rAll 0x02000000 = .error .addFunct7 ∧ decodeInstr .default 0x4220D1B3 = .error .shiftFunct7 ∧
      decodeInstr .default 0x00817503 = .error .loadFunct3 ∧ decodeInstr wholeImm 0x01F35293 = .error .shiftImm ∧
      decodeInstr .default 0x00200073 = .error .systemImm ∧ decodeInstr .default 0x00A13623 = .error .storeFunct3 ∧
      decodeInstr .default 0x0020B863 = .error .branchFunct3 := by decide
theorem witness_IgnoredBitsChangeNothingPrinted :
    ((0b111 : Funct3) ≠ 0b000 ∧ (0b111 : Funct3) ≠ 0b101) ∧
      (tc32 2019).extractLsb 4 0 = (tc32 3).extractLsb 4 0 ∧ opcode 0x8330000F = 0b0001111 ∧
      opcode 0x022091B3 = 0b0110011 ∧ opcode 0x010372E7 = 0b1100111 := by decide
theorem witness_ForeignWords :
    (opcode 0x022081B3 = 0b0110011 ∧ funct7 0x022081B3 = 0b0000001 ∧ funct3 0x022081B3 = 0b000) ∧
      (funct7 0x022091B3 = 0b0000001 ∧ funct3 0x022091B3 = 0b001) ∧
      (opcode 0x001522F3 = 0b1110011 ∧ funct3 0x001522F3 ≠ 0b000) ∧
      (opcode 0x30200073 = 0b1110011 ∧ funct3 0x30200073 = 0b000 ∧ patI 0x30200073 = 0x302) ∧
      opcode 0x0000100F = 0b0001111 ∧
      (opcode 0x02031293 = 0b0010011 ∧ funct3 0x02031293 = 0b001 ∧ (0x02031293 : Word).getLsbD 25 = true) ∧
      (Params.default.shift = .funct7Field ∧ funct3 0x02035293 = 0b101 ∧ (0x02035293 : Word).getLsbD 25 = true) ∧
      (opcode 0x0000001B = 0b0011011 ∧ opcode 0x0000003B = 0b0111011 ∧ opcode 0x00000053 = 0b1010011) ∧
      (0x45014501 : Word).extractLsb 1 0 ≠ 0b11#2 ∧ opcode 0x45014501 ≠ 0b0000000 := by decide
theorem witness_RecordsOutsideTheDecoder :
    (0b0110011 : Opcode) ∉ ([0b1100111, 0b0000011, 0b0010011, 0b1110011] : List Opcode) ∧
      (0b0000000 : Opcode) ≠ 0b0110111 ∧ (0b0000000 : Opcode) ≠ 0b0010111 := by decide
theorem witness_ParametersChangeNothingElse :
    opcode 0x002081B3 ∈ listedOpcodes ∧ comma.opc0 = wholeImm.opc0 ∧ comma.shift = rAll.shift ∧
      (∀ a b imm, (.iType 0b0010011 5 0b001 6 0 : Decoded) ≠ .iType 0b0010011 a 0b101 b imm) ∧
      (comma.opc0 = Params.default.opc0 ∧ comma.shift = Params.default.shift ∧ comma ≠ .default) := by
  refine ⟨by decide, by decide, by decide, fun a b imm h => ?_, by decide⟩
  cases h
theorem witness_DecimalNumerals : (2048 : Nat) ≠ 0 ∧ dec (-2048) = "-2048" ∧ dec (-2048) = dec (-2048) := by decide
theorem witness_TextAlphabetAndLength :
    Decoded.wellFormed (.bType 0b1100011 0b111 10 10 (-4096)) = true ∧ Params.default.sep = .space ∧
      classify .default (.bType 0b1100011 0b111 10 10 (-4096)) ≠ .UNKNOWN ∧ comma.sep = .commaSpace := by decide
theorem witness_PortsShowTheActiveFields :
    (decode .default 0x002081B3).tag = .R ∧ (decode .default 0xFFB30293).tag = .I ∧
      (decode .default 0xFEA12C23).tag = .S ∧ (decode .default 0xFE029AE3).tag = .B ∧
      (decode .default 0xFFFFFFB7).tag = .U ∧ (decode .default 0x80000FEF).tag = .J ∧
      (decode .default 0x0FF0000F).tag = .FENCE ∧ (decode .default 0xFFFFFFFF).tag = .INVALID := by decide
theorem witness_EveryMeaningIsTheAlgorithm :
    Instr.wellFormed (presenting wholeImm 0).params (.srai 5 6 32) = true ∧
      Instr.wellFormed (presenting rAll 0).params (.sub .zero 1 2 3) = true := by decide
theorem witness_StepRunsTheDecodedInstruction :
    (presenting comma 0x001522F3).pending = [0x001522F3, 0x00000013] ∧
      decodeInstr (presenting comma 0x001522F3).params 0x001522F3 = .ok (.ebreak 5 2 10) := by decide
theorem witness_UnrecognisedWordsCompleteToo :
    (presenting comma 0x30200073).pending = [0x30200073, 0x00000013] ∧
      decodeInstr (presenting comma 0x30200073).params 0x30200073 = .error .systemImm := by decide
theorem witness_StepIsOneEvaluation : (presenting rAll 0x00000080).pending = [0x00000080, 0x00000013] := by decide
theorem witness_RunIsTheListOfEvaluations :
    ([0x00000013, 0xFFFFFFFF, 0x00000000] : List Word).Perm [0x00000000, 0x00000013, 0xFFFFFFFF] := by decide
theorem witness_OutputIgnoresHistory :
    (presenting comma 0x0000006F).params = (State.mk comma [0x0000006F] []).params ∧
      (presenting comma 0x0000006F).pending = [0x0000006F, 0x00000013] ∧
      (State.mk comma [0x0000006F] []).pending = [0x0000006F] := by decide
theorem witness_StepFrame :
    after (step (presenting .default 0x0000006F)) =
      some ⟨.default, [0x00000013], [earlier, ⟨.jType 0b1101111 0 0, .JAL, true, "JAL x0 0"⟩]⟩ := by decide
theorem witness_StepKeepsOutputsConsistent :
    (presenting .default 0x0000006F).Inv ∧ (after (step (presenting .default 0x0000006F))).isSome = true := by decide

end Sys2Proof.Tests
end

section
/-! PROOF. The numerals of the text view: 00_scope.md R9, 30_encoding.md R60. -/

namespace Sys2Proof.Machine

theorem dec_natCast (n : Nat) : dec n = Nat.repr n := rfl

theorem dec_neg_natCast {n : Nat} (hn : n ≠ 0) : dec (-(n : Int)) = "-" ++ dec n := by
  cases n with
  | zero => exact absurd rfl hn
  | succ m => rfl

/-- Every integer is a natural number or the negative of a nonzero one, which are the two shapes of a numeral. -/
theorem dec_cases (i : Int) :
    (∃ n : Nat, i = n ∧ dec i = Nat.repr n) ∨ ∃ n : Nat, i = -(n : Int) ∧ dec i = "-" ++ Nat.repr n := by
  cases i with
  | ofNat n => exact .inl ⟨n, rfl, rfl⟩
  | negSucc n => exact .inr ⟨n + 1, rfl, rfl⟩

theorem dec_natCast_toList (n : Nat) : (dec n).toList = Nat.toDigits 10 n := by
  rw [dec_natCast, Nat.repr_eq_ofList_toDigits, String.toList_ofList]

theorem digit_of_mem_toDigits {n : Nat} {c : Char} (h : c ∈ Nat.toDigits 10 n) : '0' ≤ c ∧ c ≤ '9' :=
  Char.isDigit_iff_toNat.mp (Nat.isDigit_of_mem_toDigits (by decide) (by decide) h)

/-- The leading digit is that of the last nonzero quotient by ten. -/
theorem head_toDigits_ne_zero {n : Nat} (hn : n ≠ 0) : (Nat.toDigits 10 n).head? ≠ some '0' := by
  induction n using Nat.strongRecOn with
  | ind n ih =>
    by_cases h : n < 10
    · rw [Nat.toDigits_of_lt_base h]
      have hpos : 0 < n := Nat.pos_of_ne_zero hn
      interval_cases n <;> decide
    · have hq : (Nat.toDigits 10 (n / 10)).head? ≠ some '0' := ih (n / 10) (by omega) (by omega)
      rw [Nat.toDigits_of_base_le (by decide) (by omega), List.head?_append_of_ne_nil _ Nat.toDigits_ne_nil]
      exact hq

/-- A numeral with a minus sign is none without one: the sign is no digit. -/
theorem repr_ne_minus (n : Nat) (t : String) : Nat.repr n ≠ "-" ++ t := by
  intro h
  have hmem : '-' ∈ Nat.toDigits 10 n := by
    rw [← dec_natCast_toList, dec_natCast, h]
    simp
  exact absurd (digit_of_mem_toDigits hmem) (by decide)

theorem dec_injective {i j : Int} (h : dec i = dec j) : i = j := by
  rcases dec_cases i with ⟨m, rfl, hi⟩ | ⟨m, rfl, hi⟩ <;> rcases dec_cases j with ⟨n, rfl, hj⟩ | ⟨n, rfl, hj⟩ <;>
    rw [hi, hj] at h
  · rw [Nat.repr_inj.mp h]
  · exact absurd h (repr_ne_minus m _)
  · exact absurd h.symm (repr_ne_minus n _)
  · rw [Nat.repr_inj.mp (String.append_right_inj _ |>.mp h)]

end Sys2Proof.Machine
end

section
/-! PROOF. What each parameter can change (00_scope.md R7, 30_encoding.md R59). -/

namespace Sys2Proof.Machine

open Sys2Proof.Spec

variable {p q : Params} {w : Word}

theorem opcode_ne_zero_of_listed (h : opcode w ∈ listedOpcodes) : opcode w ≠ 0 := by
  intro h0
  rw [h0] at h
  exact absurd h (by decide)

/-- Only the zero-word arm of the dispatch reads a parameter, and only a word with opcode `0000000` reaches it. -/
theorem decode_congr (h : opcode w ≠ 0 ∨ w = 0 ∨ p.opc0 = q.opc0) : decode p w = decode q w := by
  rcases h with h | rfl | h
  · have hne : extract w 0 7 ≠ 0 := h
    simp only [decode, hne, false_and]
  · rw [decode_zero rfl (.inl rfl), decode_zero rfl (.inl rfl)]
  · simp only [decode, h]

theorem shiftKey_congr (h : p.shift = q.shift) (imm : Int) : shiftKey p imm = shiftKey q imm := by
  rw [shiftKey, shiftKey, h]

/-- Of the ALU-immediate rows only `101` reads its key. -/
theorem classifyI_congr {opcode : Opcode} {funct3 : Funct3} {imm : Int}
    (h : opcode = 0b0010011 → funct3 = 0b101 → shiftKey p imm = shiftKey q imm) :
    classifyI p opcode funct3 imm = classifyI q opcode funct3 imm := by
  by_cases halu : opcode = 0b0010011
  · subst halu
    by_cases hshift : funct3 = 0b101
    · simp only [classifyI, h rfl hshift]
    · simp only [classifyI, BitVec.reduceEq, if_true, if_false]
      split <;> simp_all
  · simp only [classifyI, if_neg halu]

theorem classify_congr {r : Decoded} (h : p.shift = q.shift ∨ ∀ a b imm, r ≠ .iType 0b0010011 a 0b101 b imm) :
    classify p r = classify q r := by
  cases r with
  | iType opcode rd funct3 rs1 imm =>
    refine classifyI_congr fun halu hshift => h.elim (fun h => shiftKey_congr h imm) fun h => ?_
    exact absurd (by rw [halu, hshift]) (h rd rs1 imm)
  | _ => rfl

/-- Two parameter choices that differ in the separator alone differ in the text alone. -/
theorem evaluate_congr (ho : p.opc0 = q.opc0) (hs : p.shift = q.shift) :
    evaluate p w = { evaluate q w with text := format p (decode q w) } := by
  have hd : decode p w = decode q w := decode_congr (.inr (.inr ho))
  simp only [evaluate, hd, classify_congr (.inl hs)]

end Sys2Proof.Machine
end

section
/-! PROOF. The statements of 00_scope.md. -/

namespace Sys2Proof.Proofs

open Sys2Proof.Machine Sys2Proof.Spec

/-- Settles O31: one lemma per component says which parameter it reads, and where. -/
theorem parametersChangeNothingElse : Obligations.ParametersChangeNothingElse := by
  intro p q
  refine ⟨fun w h => decode_congr (h.imp_left opcode_ne_zero_of_listed), fun r => classify_congr, fun ho hs w => ?_⟩
  rw [evaluate_congr ho hs]
  exact ⟨rfl, rfl, rfl⟩

/-- Settles O33: the numeral of a natural number is the library's digit list, whose head is `0` for zero alone. -/
theorem decimalNumerals : Obligations.DecimalNumerals := by
  refine ⟨fun n => ?_, rfl, fun i j => dec_injective⟩
  refine ⟨?_, ?_, ?_, ?_, dec_neg_natCast⟩ <;> rw [dec_natCast_toList]
  · exact Nat.toDigits_ne_nil
  · exact fun c => digit_of_mem_toDigits
  · rw [← Nat.ofDigitChars_eq_foldl, Nat.ofDigitChars_ten_toDigits]
  · exact head_toDigits_ne_zero

/-- Settles O52: with no output read back the invariant asks nothing. -/
theorem resetHoldsNothing : Obligations.ResetHoldsNothing :=
  ⟨fun _ ho => absurd ho List.not_mem_nil, rfl, rfl, rfl⟩

end Sys2Proof.Proofs
end

section
/-! PROOF. What the primary dispatch can answer, by its tag, and the range of its fields: 10_state.md R15, 30_encoding.md
R47 to R52, 41_decoder.md R69. -/

namespace Sys2Proof

variable {p : Params} {w : Word}

/-- The one record a word can have under each tag: the arms of the multiplexer that share a tag share its parser. -/
def Tag.recordOf (w : Word) : Tag → Decoded
  | .R       => parseR w
  | .I       => parseI w
  | .S       => parseS w
  | .B       => parseB w
  | .U       => parseU w
  | .J       => parseJ w
  | .FENCE   => .fence 0b0001111
  | .INVALID => .invalid

theorem decode_eq_recordOf {t : Tag} (h : (decode p w).tag = t) : decode p w = t.recordOf w := by
  subst h
  rcases decode_cases p w with ⟨hd, -⟩ | ⟨hd, -⟩ | ⟨hd, -⟩ | ⟨hd, -⟩ | ⟨hd, -⟩ | ⟨hd, -⟩ | ⟨hd, -⟩ | ⟨hd, -⟩ |
      ⟨hd, -⟩ <;>
    rw [hd] <;> rfl

/-- Only an immediate has a range of its own, and sign extension of its pattern stays in it. -/
theorem recordOf_wellFormed (t : Tag) (w : Word) : (t.recordOf w).wellFormed = true := by
  cases t with
  | R | FENCE | INVALID => rfl
  | I => exact immI_ok w
  | S => exact immS_ok w
  | B => exact immB_ok w
  | U => exact immU_ok w
  | J => exact immJ_ok w

@[simp] theorem decode_wellFormed (p : Params) (w : Word) : (decode p w).wellFormed = true := by
  rw [decode_eq_recordOf rfl]
  exact recordOf_wellFormed _ w

/-- The wires of an immediate are its pattern sign-extended (10_state.md R22). -/
theorem tc32_sext {n : Nat} (v : BitVec n) : tc32 (sext v) = v.signExtend 32 := by
  rw [sext_eq_toInt]
  rfl

theorem tc32_immI (w : Word) : tc32 (immI w) = (Spec.patI w).signExtend 32 := tc32_sext _
theorem tc32_immS (w : Word) : tc32 (immS w) = (Spec.patS w).signExtend 32 := tc32_sext _
theorem tc32_immB (w : Word) : tc32 (immB w) = (Spec.patB w).signExtend 32 := tc32_sext _
theorem tc32_immU (w : Word) : tc32 (immU w) = (Spec.patU w).signExtend 32 := tc32_sext _
theorem tc32_immJ (w : Word) : tc32 (immJ w) = (Spec.patJ w).signExtend 32 := tc32_sext _

end Sys2Proof
end

section
/-! PROOF. What an instruction's meaning delivers, and a step as one evaluation of the next word: 48_formatter.md R138 to
R142, 70_reset_and_hazards.md R160, R161. -/

namespace Sys2Proof.Machine

variable {p : Params} {w : Word} {s t : State} {rest : List Word}

theorem op_ne_unknown (i : Instr) : i.op ≠ .UNKNOWN := by cases i <;> nofun

/-- Every meaning ends in `deliver`, with the operation select of its instruction. -/
theorem exec_eq_deliver (i : Instr) (s : State) : ∃ record text, exec i s = deliver i.op record text s := by
  cases i <;> exact ⟨_, _, rfl⟩

theorem evaluate_of_decode {r : Decoded} (h : decode p w = r) :
    evaluate p w = ⟨r, classify p r, legalOf (classify p r), format p r⟩ := by
  rw [evaluate, h]

theorem format_of_unknown {r : Decoded} (h : classify p r = .UNKNOWN) : format p r = invalidText := by
  rw [format, h]
  rfl

/-- The per-instruction meanings and the meaning of a word that is no instruction deliver together what the spec's own
algorithm gives. -/
theorem evalWord_eq (w : Word) (s : State) : evalWord w s = .next (s.addResult (evaluate s.params w)) := by
  unfold evalWord
  split
  next i h => exact exec_of_recognise (decodeInstr_ok h) rfl
  next e h =>
    have hop : classify s.params (decode s.params w) = .UNKNOWN := classify_of_decodeInstr_error h
    rw [execUnrecognised, deliver, evaluate, format_of_unknown hop, hop]

theorem step_eq_evaluate (h : s.pending = w :: rest) :
    step s = .next { s with pending := rest, results := s.results ++ [evaluate s.params w] } := by
  rw [step_of_pending h, evalWord_eq]
  rfl

/-- The inversion of a step: a step that answers has taken the next word and delivered its evaluation. -/
theorem step_eq_next (h : step s = .next t) :
    ∃ w, s.pending = w :: t.pending ∧ t.params = s.params ∧ t.results = s.results ++ [evaluate s.params w] := by
  cases hs : s.pending with
  | nil =>
    rw [step_of_empty hs] at h
    cases h
  | cons w rest =>
    rw [step_eq_evaluate hs] at h
    cases h
    exact ⟨w, rfl, rfl, rfl⟩

theorem evaluate_consistent (p : Params) (w : Word) : (evaluate p w).Consistent p :=
  ⟨decode_wellFormed p w, rfl, legalOf_eq_true _, rfl⟩

end Sys2Proof.Machine
end

section
/-! PROOF. The statements of 10_state.md. -/

namespace Sys2Proof.Proofs

open Sys2Proof.Machine

/-- Settles O51: the one output that a step adds is an evaluation, and every evaluation is consistent. -/
theorem stepKeepsOutputsConsistent : Obligations.StepKeepsOutputsConsistent := by
  intro s t hinv hstep o ho
  obtain ⟨w, -, hparams, hresults⟩ := step_eq_next hstep
  rw [hresults, List.mem_append, List.mem_singleton] at ho
  rw [hparams]
  rcases ho with ho | rfl
  · exact hinv o ho
  · exact evaluate_consistent s.params w

/-- Settles O10: the record is the one of its tag, whose immediate is a sign-extended pattern. -/
theorem decodedRecordsAreInRange : Obligations.DecodedRecordsAreInRange := decode_wellFormed

/-- Settles O35: under each tag the word has one record, and its immediate is driven as the pattern sign-extended. -/
theorem portsShowTheActiveFields : Obligations.PortsShowTheActiveFields := by
  intro p w
  refine ⟨?_, ?_, ?_, ?_, ?_, ?_, ?_, ?_⟩ <;> intro htag <;>
    rw [evaluate_of_decode (decode_eq_recordOf htag)]
  · rfl
  · rw [← tc32_immI]; rfl
  · rw [← tc32_immS]; rfl
  · rw [← tc32_immB]; rfl
  · rw [← tc32_immU]; rfl
  · rw [← tc32_immJ]; rfl
  · rfl
  · rfl

/-- Settles O49: both states deliver the evaluation of the word under the common parameters. -/
theorem outputIgnoresHistory : Obligations.OutputIgnoresHistory := by
  intro s t w rest rest' hparams hs ht
  exact ⟨evaluate s.params w, step_eq_evaluate hs, hparams ▸ step_eq_evaluate ht⟩

/-- Settles O43: every meaning is one `deliver`, and the operation select of an instruction is never `UNKNOWN`. -/
theorem everyInstructionCompletesWithItsFrame : Obligations.EveryInstructionCompletesWithItsFrame := by
  intro i s
  obtain ⟨record, text, hexec⟩ := exec_eq_deliver i s
  exact ⟨⟨record, i.op, legalOf i.op, text⟩, hexec, rfl, (legalOf_eq_true i.op).mpr (op_ne_unknown i)⟩

end Sys2Proof.Proofs
end

section
/-! PROOF. The immediates as integers and as bits of the word: 30_encoding.md R46 to R52. -/

namespace Sys2Proof

open Sys2Proof.Spec

variable (w : Word)

theorem immI_eq_toInt : immI w = (patI w).toInt := sext_eq_toInt _
theorem immS_eq_toInt : immS w = (patS w).toInt := sext_eq_toInt _
theorem immB_eq_toInt : immB w = (patB w).toInt := sext_eq_toInt _
theorem immU_eq_toInt : immU w = (patU w).toInt := sext_eq_toInt _
theorem immJ_eq_toInt : immJ w = (patJ w).toInt := sext_eq_toInt _

/-- The top bits of a word as a signed value are its arithmetic shift. -/
theorem sext_extract_top {off n : Nat} (h : 1 ≤ n ∧ off + n ≤ 32) (htop : off + n = 32) :
    sext (extract w off n h) = w.toInt / 2 ^ off := by
  have hshift : (extract w off n h).signExtend 32 = w.sshiftRight off := by
    apply BitVec.eq_of_getLsbD_eq
    intro k hk
    rw [BitVec.getLsbD_signExtend, BitVec.getLsbD_sshiftRight, BitVec.msb_eq_getLsbD_last, BitVec.msb_eq_getLsbD_last,
      extract_getLsbD, extract_getLsbD, show off + (n - 1) = 32 - 1 by omega]
    grind
  rw [sext_eq_toInt, ← BitVec.toInt_signExtend_of_le (v := 32) (by omega), hshift, BitVec.toInt_sshiftRight,
    Int.shiftRight_eq_div_pow]
  norm_cast

theorem fitsSigned_iff {n : Nat} {i : Int} : fitsSigned n i = true ↔ -(2 ^ (n - 1) : Int) ≤ i ∧ i < 2 ^ (n - 1) :=
  decide_eq_true_iff

theorem immOk12_iff {i : Int} : immOk12 i = true ↔ -2048 ≤ i ∧ i ≤ 2047 := by
  rw [immOk12, fitsSigned_iff]; omega

theorem immOkB_iff {i : Int} : immOkB i = true ↔ (-4096 ≤ i ∧ i ≤ 4094) ∧ i % 2 = 0 := by
  rw [immOkB, Bool.and_eq_true, fitsSigned_iff, decide_eq_true_iff]; omega

theorem immOkU_iff {i : Int} : immOkU i = true ↔ -524288 ≤ i ∧ i ≤ 524287 := by
  rw [immOkU, fitsSigned_iff]; omega

theorem immOkJ_iff {i : Int} : immOkJ i = true ↔ (-1048576 ≤ i ∧ i ≤ 1048574) ∧ i % 2 = 0 := by
  rw [immOkJ, Bool.and_eq_true, fitsSigned_iff, decide_eq_true_iff]; omega

/-! Sign extension to 32 bits repeats the sign bit above the pattern and keeps the pattern below it. -/

theorem signExtend_getLsbD_sign {n : Nat} (v : BitVec n) {k : Nat} (hn : n ≤ k + 1) (hk : k < 32) :
    (v.signExtend 32).getLsbD k = v.msb := by
  simp only [BitVec.getLsbD_signExtend, hk, decide_true, Bool.true_and, ite_eq_right_iff]
  intro hlast
  rw [BitVec.msb_eq_getLsbD_last, show n - 1 = k by omega]

theorem signExtend_toNat_mod {n : Nat} (v : BitVec n) (hn : n ≤ 32) : (v.signExtend 32).toNat % 2 ^ n = v.toNat := by
  rw [← BitVec.toNat_setWidth]
  congr 1
  apply BitVec.eq_of_getLsbD_eq
  intro k hk
  simp [BitVec.getLsbD_signExtend, hk]
  omega

theorem patI_msb : (patI w).msb = w.getLsbD 31 := by
  rw [BitVec.msb_eq_getLsbD_last]; simp only [BitVec.getLsbD_extractLsb]; simp
theorem patS_msb : (patS w).msb = w.getLsbD 31 := by
  rw [BitVec.msb_eq_getLsbD_last]; simp only [BitVec.getLsbD_append, BitVec.getLsbD_extractLsb]; simp
theorem patB_msb : (patB w).msb = w.getLsbD 31 := by
  rw [BitVec.msb_eq_getLsbD_last]; simp only [BitVec.getLsbD_append, BitVec.getLsbD_extractLsb]; simp
theorem patU_msb : (patU w).msb = w.getLsbD 31 := by
  rw [BitVec.msb_eq_getLsbD_last]; simp only [BitVec.getLsbD_extractLsb]; simp
theorem patJ_msb : (patJ w).msb = w.getLsbD 31 := by
  rw [BitVec.msb_eq_getLsbD_last]; simp only [BitVec.getLsbD_append, BitVec.getLsbD_extractLsb]; simp

theorem patB_getLsbD_zero : (patB w).getLsbD 0 = false := by rw [patB, BitVec.getLsbD_append]; rfl
theorem patJ_getLsbD_zero : (patJ w).getLsbD 0 = false := by rw [patJ, BitVec.getLsbD_append]; rfl

/-! The immediate positions of a word, every other bit cleared, are its pattern laid out with every other field zero. -/

theorem and_immI_positions : w &&& 0xFFF00000 = packI 0 0 0 0 (patI w) := by
  apply BitVec.eq_of_getLsbD_eq
  intro i hi
  simp only [packI, BitVec.getLsbD_append, BitVec.getLsbD_extractLsb, BitVec.getLsbD_and]
  interval_cases i <;> simp

theorem and_immS_positions : w &&& 0xFE000F80 = packS 0 0 0 0 (patS w) := by
  apply BitVec.eq_of_getLsbD_eq
  intro i hi
  simp only [packS, BitVec.getLsbD_append, BitVec.getLsbD_extractLsb, BitVec.getLsbD_extractLsb', BitVec.getLsbD_and]
  interval_cases i <;> simp

theorem and_immB_positions : w &&& 0xFE000F80 = packB 0 0 0 0 (patB w) := by
  apply BitVec.eq_of_getLsbD_eq
  intro i hi
  simp only [packB, BitVec.getLsbD_append, BitVec.getLsbD_extractLsb, BitVec.getLsbD_extractLsb', BitVec.getLsbD_and]
  interval_cases i <;> simp

theorem and_immU_positions : w &&& 0xFFFFF000 = packU 0 0 (patU w) := by
  apply BitVec.eq_of_getLsbD_eq
  intro i hi
  simp only [packU, BitVec.getLsbD_append, BitVec.getLsbD_extractLsb, BitVec.getLsbD_and]
  interval_cases i <;> simp

theorem and_immJ_positions : w &&& 0xFFFFF000 = packJ 0 0 (patJ w) := by
  apply BitVec.eq_of_getLsbD_eq
  intro i hi
  simp only [packJ, BitVec.getLsbD_append, BitVec.getLsbD_extractLsb, BitVec.getLsbD_extractLsb', BitVec.getLsbD_and]
  interval_cases i <;> simp

/-- An immediate `imm` that is the value of the pattern `pat` is determined by the bits of `mask`, and determines them, if
the pattern is laid out on those bits and can be read back from them. -/
theorem imm_eq_iff_and_eq {n : Nat} {imm : Word → Int} {pat : Word → BitVec n} {mask : Word}
    {pack : BitVec n → Word} (himm : ∀ w, imm w = sext (pat w)) (hmask : ∀ w, w &&& mask = pack (pat w))
    (hback : ∀ w, pat (pack (pat w)) = pat w) (w u : Word) : imm w = imm u ↔ w &&& mask = u &&& mask := by
  rw [himm, himm, sext_inj, hmask, hmask]
  exact ⟨fun h => by rw [h], fun h => by rw [← hback w, h, hback u]⟩

theorem immI_eq_iff (w u : Word) : immI w = immI u ↔ w &&& 0xFFF00000 = u &&& 0xFFF00000 :=
  imm_eq_iff_and_eq (pat := patI) (fun _ => rfl) and_immI_positions (fun _ => packI_imm ..) w u
theorem immS_eq_iff (w u : Word) : immS w = immS u ↔ w &&& 0xFE000F80 = u &&& 0xFE000F80 :=
  imm_eq_iff_and_eq (pat := patS) (fun _ => rfl) and_immS_positions (fun _ => packS_imm ..) w u
theorem immB_eq_iff (w u : Word) : immB w = immB u ↔ w &&& 0xFE000F80 = u &&& 0xFE000F80 :=
  imm_eq_iff_and_eq (pat := patB) (fun _ => rfl) and_immB_positions (fun _ => packB_imm _ _ _ _ _ (patB_getLsbD_zero _)) w u
theorem immU_eq_iff (w u : Word) : immU w = immU u ↔ w &&& 0xFFFFF000 = u &&& 0xFFFFF000 :=
  imm_eq_iff_and_eq (pat := patU) (fun _ => rfl) and_immU_positions (fun _ => packU_imm ..) w u
theorem immJ_eq_iff (w u : Word) : immJ w = immJ u ↔ w &&& 0xFFFFF000 = u &&& 0xFFFFF000 :=
  imm_eq_iff_and_eq (pat := patJ) (fun _ => rfl) and_immJ_positions (fun _ => packJ_imm _ _ _ (patJ_getLsbD_zero _)) w u

end Sys2Proof
end

section
/-! PROOF. The keys of the I immediate: its whole value, its upper part and the shift amount (43_itype.md R102, R113,
R114). -/

namespace Sys2Proof

variable {w : Word}

theorem immI_eq_ofInt_iff {k : Int} (h : immOk12 k = true) : immI w = k ↔ extract w 20 12 = BitVec.ofInt 12 k := by
  rw [immI]
  exact ⟨fun hk => by rw [← hk, ofInt_sext], fun hk => by rw [hk, sext_ofInt (n := 12) (by decide) h]⟩

theorem immI_eq_zero_iff : immI w = 0 ↔ extract w 20 12 = 0 := immI_eq_ofInt_iff rfl
theorem immI_eq_one_iff : immI w = 1 ↔ extract w 20 12 = 1 := immI_eq_ofInt_iff rfl
theorem immI_eq_32_iff : immI w = 0x20 ↔ extract w 20 12 = 0x20 := immI_eq_ofInt_iff rfl

/-- The upper immediate of a word is its funct7 field (43_itype.md R102). -/
theorem immUpper_immI (w : Word) : immUpper (immI w) = extract w 25 7 := by
  rw [immUpper, tc32_immI]
  apply BitVec.eq_of_getLsbD_eq
  intro k hk
  simp only [extract_getLsbD, BitVec.getLsbD_signExtend, BitVec.getLsbD_extractLsb]
  interval_cases k <;> simp

/-- The shift amount of an immediate is its low five bits, and of a word its rs2 field (43_itype.md R102). -/
theorem shamt_eq_extract (imm : Int) : shamt imm = (extract (tc32 imm) 0 5).toNat := by
  rw [shamt, andMask, extract_toNat, BitVec.toNat_and]
  exact (Nat.and_two_pow_sub_one_eq_mod _ 5).trans (by simp)

theorem shamt_immI (w : Word) : shamt (immI w) = (extract w 20 5).toNat := by
  rw [shamt_eq_extract, tc32_immI]
  congr 1
  apply BitVec.eq_of_getLsbD_eq
  intro k hk
  simp only [extract_getLsbD, BitVec.getLsbD_signExtend, BitVec.getLsbD_extractLsb]
  interval_cases k <;> simp

end Sys2Proof
end

section
/-! PROOF. The statements of 30_encoding.md about the immediates. -/

namespace Sys2Proof.Proofs

/-- Settles O3: each immediate is the signed value of its pattern, and the ranges are those of well-formedness. -/
theorem immediateValues : Obligations.ImmediateValues := by
  refine ⟨fun w => ⟨⟨immI_eq_toInt w, sext_extract_top w _ rfl, immOk12_iff.mp (immI_ok w)⟩,
    ⟨immS_eq_toInt w, immOk12_iff.mp (immS_ok w)⟩, ⟨immB_eq_toInt w, ?_⟩,
    ⟨immU_eq_toInt w, sext_extract_top w _ rfl, immOkU_iff.mp (immU_ok w)⟩, ⟨immJ_eq_toInt w, ?_⟩⟩, by decide⟩
  · exact (immOkB_iff.mp (immB_ok w)).symm
  · exact (immOkJ_iff.mp (immJ_ok w)).symm

/-- Settles O4: the sign is the pattern's top bit, sign extension keeps the pattern, and the layout that puts the pattern
on the immediate's positions is inverse to reading it. -/
theorem immediateProperties : Obligations.ImmediateProperties := by
  refine ⟨fun w => ⟨?_, ?_, ?_, ?_, ?_, ?_, ?_, ?_, ?_, ?_, (immOkB_iff.mp (immB_ok w)).2, (immOkJ_iff.mp (immJ_ok w)).2⟩,
    fun w u => ⟨immI_eq_iff w u, immS_eq_iff w u, immB_eq_iff w u, immU_eq_iff w u, immJ_eq_iff w u⟩,
    fun i => ⟨fun h => ?_, fun h => ?_, fun h => ?_, fun h => ?_⟩⟩
  · rw [← patI_msb]; exact sext_neg _
  · rw [← patS_msb]; exact sext_neg _
  · rw [← patB_msb]; exact sext_neg _
  · rw [← patU_msb]; exact sext_neg _
  · rw [← patJ_msb]; exact sext_neg _
  · rw [tc32_immI]; exact signExtend_toNat_mod _ (by decide)
  · rw [tc32_immS]; exact signExtend_toNat_mod _ (by decide)
  · rw [tc32_immB]; exact signExtend_toNat_mod _ (by decide)
  · rw [tc32_immU]; exact signExtend_toNat_mod _ (by decide)
  · rw [tc32_immJ]; exact signExtend_toNat_mod _ (by decide)
  · exact ⟨⟨_, immI_packI 0 0 0 0 (immOk12_iff.mpr h)⟩, _, immS_packS 0 0 0 0 (immOk12_iff.mpr h)⟩
  · exact ⟨_, immB_packB 0 0 0 0 (immOkB_iff.mpr (and_assoc.mpr h))⟩
  · exact ⟨_, immU_packU 0 0 (immOkU_iff.mpr h)⟩
  · exact ⟨_, immJ_packJ 0 0 (immOkJ_iff.mpr (and_assoc.mpr h))⟩

/-- Settles O5: the pattern of 32 bits is the format's own, sign-extended, and the format's top bit is `w[31]`. -/
theorem signFillsEveryHigherBit : Obligations.SignFillsEveryHigherBit := by
  intro w k hk
  refine ⟨fun h => ?_, fun h => ?_, fun h => ?_, fun h => ?_, fun h => ?_⟩
  · rw [tc32_immI, signExtend_getLsbD_sign _ (by omega) hk, patI_msb]
  · rw [tc32_immS, signExtend_getLsbD_sign _ (by omega) hk, patS_msb]
  · rw [tc32_immB, signExtend_getLsbD_sign _ (by omega) hk, patB_msb]
  · rw [tc32_immU, signExtend_getLsbD_sign _ (by omega) hk, patU_msb]
  · rw [tc32_immJ, signExtend_getLsbD_sign _ (by omega) hk, patJ_msb]

end Sys2Proof.Proofs
end

section
/-! PROOF. The decoder of instructions, opcode by opcode: 30_encoding.md R43 to R45, R53, 41_decoder.md R69. -/

namespace Sys2Proof

open Sys2Proof.Spec

variable {p : Params} {w : Word}

/-- The four opcodes of the I layout (30_encoding.md R43). -/
abbrev IsIOpcode (o : Opcode) : Prop := o = 0b1100111 ∨ o = 0b0000011 ∨ o = 0b0010011 ∨ o = 0b1110011

/-- A word is parsed as R-type with this opcode: `0110011` always does, `0000000` by the zero-word rule (R45). -/
def ROpcode.Selects (p : Params) (w : Word) : ROpcode → Prop
  | .op   => extract w 0 7 = 0b0110011
  | .zero => extract w 0 7 = 0b0000000 ∧ (w = 0 ∨ p.opc0 = .rAll)

theorem ROpcode.exists_selects_iff :
    (∃ opc : ROpcode, opc.Selects p w) ↔
      opcode w = 0b0110011 ∨ (opcode w = 0b0000000 ∧ (w = 0 ∨ p.opc0 = .rAll)) := by
  constructor
  · rintro ⟨opc, h⟩
    cases opc with
    | op => exact .inl h
    | zero => exact .inr h
  · rintro (h | h)
    · exact ⟨.op, h⟩
    · exact ⟨.zero, h⟩

theorem ROpcode.Selects.opcode_eq {opc : ROpcode} (h : opc.Selects p w) : extract w 0 7 = opc.bits := by
  cases opc with
  | op => exact h
  | zero => exact h.1

theorem decode_of_rOpcode {opc : ROpcode} (h : opc.Selects p w) : decode p w = parseR w := by
  cases opc with
  | op => exact decode_parseR h
  | zero => exact decode_zero h.1 h.2

@[simp] theorem rOpcodeOf_bits (opc : ROpcode) : rOpcodeOf opc.bits = .ok opc := by cases opc <;> rfl

theorem decodeInstr_R {opc : ROpcode} (h : opc.Selects p w) :
    decodeInstr p w =
      recogniseR opc (extract w 7 5) (extract w 12 3) (extract w 15 5) (extract w 20 5) (extract w 25 7) := by
  have hd : decode p w = parseR w := decode_of_rOpcode h
  rw [decodeInstr_eq (by rw [hd]; nofun), hd, parseR, h.opcode_eq, recognise, rOpcodeOf_bits]

theorem decodeInstr_I (h : IsIOpcode (extract w 0 7)) :
    decodeInstr p w =
      recogniseI p (extract w 0 7) (extract w 7 5) (extract w 12 3) (extract w 15 5) (immI w) := by
  have hd : decode p w = parseI w := decode_parseI h
  rw [decodeInstr_eq (by rw [hd]; nofun), hd, parseI, recognise]

theorem decodeInstr_jalr (h : extract w 0 7 = 0b1100111) :
    decodeInstr p w = .ok (.jalr (extract w 7 5) (extract w 12 3) (extract w 15 5) (immI w)) := by
  rw [decodeInstr_I (by rw [h]; decide), h]
  rfl

theorem decodeInstr_load (h : extract w 0 7 = 0b0000011) :
    decodeInstr p w = recogniseLoad (extract w 7 5) (extract w 12 3) (extract w 15 5) (immI w) := by
  rw [decodeInstr_I (by rw [h]; decide), h]
  rfl

theorem decodeInstr_aluImm (h : extract w 0 7 = 0b0010011) :
    decodeInstr p w = recogniseAluImm p (extract w 7 5) (extract w 12 3) (extract w 15 5) (immI w) := by
  rw [decodeInstr_I (by rw [h]; decide), h]
  rfl

theorem decodeInstr_system (h : extract w 0 7 = 0b1110011) :
    decodeInstr p w = recogniseSystem (extract w 7 5) (extract w 12 3) (extract w 15 5) (immI w) := by
  rw [decodeInstr_I (by rw [h]; decide), h]
  rfl

theorem decodeInstr_S (h : extract w 0 7 = 0b0100011) :
    decodeInstr p w = recogniseS (extract w 12 3) (extract w 15 5) (extract w 20 5) (immS w) := by
  have hd : decode p w = parseS w := decode_parseS h
  rw [decodeInstr_eq (by rw [hd]; nofun), hd, parseS, recognise, if_pos h]

theorem decodeInstr_B (h : extract w 0 7 = 0b1100011) :
    decodeInstr p w = recogniseB (extract w 12 3) (extract w 15 5) (extract w 20 5) (immB w) := by
  have hd : decode p w = parseB w := decode_parseB h
  rw [decodeInstr_eq (by rw [hd]; nofun), hd, parseB, recognise, if_pos h]

theorem decodeInstr_lui (h : extract w 0 7 = 0b0110111) :
    decodeInstr p w = .ok (.lui (extract w 7 5) (immU w)) := by
  have hd : decode p w = parseU w := decode_parseU (.inl h)
  rw [decodeInstr_eq (by rw [hd]; nofun), hd, parseU, recognise, h]
  rfl

theorem decodeInstr_auipc (h : extract w 0 7 = 0b0010111) :
    decodeInstr p w = .ok (.auipc (extract w 7 5) (immU w)) := by
  have hd : decode p w = parseU w := decode_parseU (.inr h)
  rw [decodeInstr_eq (by rw [hd]; nofun), hd, parseU, recognise, h]
  rfl

theorem decodeInstr_jal (h : extract w 0 7 = 0b1101111) :
    decodeInstr p w = .ok (.jal (extract w 7 5) (immJ w)) := by
  have hd : decode p w = parseJ w := decode_parseJ h
  rw [decodeInstr_eq (by rw [hd]; nofun), hd, parseJ, recognise, if_pos h]

theorem decodeInstr_fence (h : extract w 0 7 = 0b0001111) : decodeInstr p w = .ok .fence := by
  rw [decodeInstr_eq (by rw [decode_fence h]; nofun), decode_fence h]
  rfl

theorem decodeInstr_invalid (h : decode p w = .invalid) :
    decodeInstr p w = .error (if extract w 0 7 = 0b0000000 then .opcodeZero else .opcode) := by
  rw [decodeInstr, h]
  split_ifs <;> rfl

/-- The multiplexer as the decoder of instructions sees it: one case for each layout, with the opcode that selects it. -/
theorem opcode_cases (p : Params) (w : Word) :
    (∃ opc : ROpcode, opc.Selects p w) ∨ IsIOpcode (extract w 0 7) ∨ extract w 0 7 = 0b0100011 ∨
      extract w 0 7 = 0b1100011 ∨ extract w 0 7 = 0b0110111 ∨ extract w 0 7 = 0b0010111 ∨
      extract w 0 7 = 0b1101111 ∨ extract w 0 7 = 0b0001111 ∨
      (decode p w = .invalid ∧ extract w 0 7 ∉ listedOpcodes ∧
        ¬(extract w 0 7 = 0b0000000 ∧ (w = 0 ∨ p.opc0 = .rAll))) := by
  rcases decode_cases p w with ⟨-, h⟩ | ⟨-, h⟩ | ⟨-, h⟩ | ⟨-, h⟩ | ⟨-, h⟩ | ⟨-, h⟩ | ⟨-, h⟩ | ⟨-, h⟩ | ⟨hd, h⟩
  · tauto
  · tauto
  · tauto
  · tauto
  · tauto
  · exact .inl ⟨.op, h⟩
  · tauto
  · exact .inl ⟨.zero, h⟩
  · simp only [List.mem_cons, List.not_mem_nil]
    tauto

end Sys2Proof
end

section
/-! PROOF. Decoding the word of an instruction gives it back, operand by operand: 30_encoding.md R39 to R42, R53. -/

namespace Sys2Proof

variable {p : Params} {rd rs1 rs2 : RegIndex} {funct3 : Funct3} {funct7 : Funct7} {opcode : Opcode} {imm : Int}

/-! The recogniser of a layout is what decoding a packed word of that layout runs. -/

theorem decodeInstr_packR {opc : ROpcode} (h : rOpcodeOk p opc = true) :
    decodeInstr p (packR opc.bits rd funct3 rs1 rs2 funct7) = recogniseR opc rd funct3 rs1 rs2 funct7 := by
  have hsel : opc.Selects p (packR opc.bits rd funct3 rs1 rs2 funct7) := by
    cases opc with
    | op => exact packR_opcode ..
    | zero => exact ⟨packR_opcode .., .inr (of_decide_eq_true h)⟩
  rw [decodeInstr_R hsel, packR_rd, packR_funct3, packR_rs1, packR_rs2, packR_funct7]

theorem decodeInstr_packI (ho : IsIOpcode opcode) (h : immOk12 imm = true) :
    decodeInstr p (packI opcode rd funct3 rs1 (.ofInt 12 imm)) = recogniseI p opcode rd funct3 rs1 imm := by
  rw [decodeInstr_I (by rwa [packI_opcode]), packI_opcode, packI_rd, packI_funct3, packI_rs1, immI_packI _ _ _ _ h]

theorem decodeInstr_packS (h : immOk12 imm = true) :
    decodeInstr p (packS 0b0100011 funct3 rs1 rs2 (.ofInt 12 imm)) = recogniseS funct3 rs1 rs2 imm := by
  rw [decodeInstr_S (packS_opcode ..), packS_funct3, packS_rs1, packS_rs2, immS_packS _ _ _ _ h]

theorem decodeInstr_packB (h : immOkB imm = true) :
    decodeInstr p (packB 0b1100011 funct3 rs1 rs2 (.ofInt 13 imm)) = recogniseB funct3 rs1 rs2 imm := by
  rw [decodeInstr_B (packB_opcode ..), packB_funct3, packB_rs1, packB_rs2, immB_packB _ _ _ _ h]

/-! The keys of SRLI and SRAI as the two ranges of the immediate (43_itype.md R110, R111). -/

theorem immUpper_toNat (imm : Int) : ((immUpper imm).toNat : Int) = imm / 32 % 128 := by
  rw [immUpper, extract_toNat, tc32, BitVec.toNat_ofInt]
  omega

theorem immUpper_eq_iff {k : Nat} (hk : k < 128) : immUpper imm = BitVec.ofNat 7 k ↔ imm / 32 % 128 = k := by
  rw [← BitVec.toNat_inj, BitVec.toNat_ofNat, Nat.mod_eq_of_lt hk, ← immUpper_toNat]
  omega

theorem srliImmOk_iff (h : immOk12 imm = true) :
    srliImmOk p imm = true ↔ (p.shift = .funct7Field ∧ immUpper imm = 0) ∨ (p.shift = .wholeImm ∧ imm = 0) := by
  have hupper : immUpper imm = 0 ↔ imm / 32 % 128 = 0 := immUpper_eq_iff (k := 0) (by decide)
  rw [immOk12_iff] at h
  rw [srliImmOk, hupper]
  cases p.shift with
  | funct7Field => simp; omega
  | wholeImm => simp

theorem sraiImmOk_iff (h : immOk12 imm = true) :
    sraiImmOk p imm = true ↔ (p.shift = .funct7Field ∧ immUpper imm = 0b0100000) ∨ (p.shift = .wholeImm ∧ imm = 0x20) := by
  have hupper : immUpper imm = 0b0100000 ↔ imm / 32 % 128 = 32 := immUpper_eq_iff (k := 32) (by decide)
  rw [immOk12_iff] at h
  rw [sraiImmOk, hupper]
  cases p.shift with
  | funct7Field => simp; omega
  | wholeImm => simp

/-- Both shift keys lie in the range of the I immediate. -/
theorem immOk12_of_srliImmOk (h : srliImmOk p imm = true) : immOk12 imm = true := by
  unfold srliImmOk at h
  rw [immOk12_iff]
  split at h <;> rw [decide_eq_true_iff] at h <;> omega

theorem immOk12_of_sraiImmOk (h : sraiImmOk p imm = true) : immOk12 imm = true := by
  unfold sraiImmOk at h
  rw [immOk12_iff]
  split at h <;> rw [decide_eq_true_iff] at h <;> omega

theorem recogniseAluImm_srli (h : srliImmOk p imm = true) :
    recogniseAluImm p rd 0b101 rs1 imm = .ok (.srli rd rs1 imm) := by
  rcases (srliImmOk_iff (immOk12_of_srliImmOk h)).mp h with ⟨hp, hk⟩ | ⟨hp, hk⟩ <;> simp [recogniseAluImm, hp, hk]

theorem recogniseAluImm_srai (h : sraiImmOk p imm = true) :
    recogniseAluImm p rd 0b101 rs1 imm = .ok (.srai rd rs1 imm) := by
  rcases (sraiImmOk_iff (immOk12_of_sraiImmOk h)).mp h with ⟨hp, hk⟩ | ⟨hp, hk⟩ <;> simp [recogniseAluImm, hp, hk]

/-- ADD alone has the zero word beside its rows (30_encoding.md R45; log entry 6). -/
theorem decodeInstr_encode_add {opc : ROpcode} (h : Instr.wellFormed p (.add opc rd rs1 rs2) = true) :
    decodeInstr p (encode (.add opc rd rs1 rs2)) = .ok (.add opc rd rs1 rs2) := by
  rw [Instr.wellFormed, Bool.or_eq_true, decide_eq_true_iff] at h
  cases opc with
  | op => exact decodeInstr_packR rfl
  | zero =>
    rcases h with hp | ⟨rfl, rfl, rfl⟩
    · exact decodeInstr_packR hp
    · exact decodeInstr_R (opc := .zero) ⟨rfl, .inl rfl⟩

/-- Decode after encode, by the layout of each instruction. -/
theorem decodeInstr_encode {i : Instr} (h : i.wellFormed p = true) : decodeInstr p (encode i) = .ok i := by
  cases i with
  | add => exact decodeInstr_encode_add h
  | sub | sll | slt | sltu | xor | srl | sra | or | and => exact decodeInstr_packR h
  | jalr | lb | lh | lw | lbu | lhu | addi | slti | sltiu | xori | ori | andi | slli =>
    exact decodeInstr_packI (by decide) h
  | srli => exact (decodeInstr_packI (by decide) (immOk12_of_srliImmOk h)).trans (recogniseAluImm_srli h)
  | srai => exact (decodeInstr_packI (by decide) (immOk12_of_sraiImmOk h)).trans (recogniseAluImm_srai h)
  | ecall => exact decodeInstr_packI (imm := 0) (by decide) rfl
  | ebreak => exact decodeInstr_packI (imm := 1) (by decide) rfl
  | sb | sh | sw => exact decodeInstr_packS h
  | beq | bne | blt | bge | bltu | bgeu => exact decodeInstr_packB h
  | lui rd imm => rw [encode, decodeInstr_lui (packU_opcode ..), packU_rd, immU_packU _ _ h]
  | auipc rd imm => rw [encode, decodeInstr_auipc (packU_opcode ..), packU_rd, immU_packU _ _ h]
  | jal rd imm => rw [encode, decodeInstr_jal (packJ_opcode ..), packJ_rd, immJ_packJ _ _ h]
  | fence => exact decodeInstr_fence rfl

end Sys2Proof
end

section
/-! PROOF. The round trip of 30_encoding.md section 2. -/

namespace Sys2Proof.Proofs

/-- Settles O11: decoding a packed word runs the recogniser of its layout on the operands that were packed. -/
theorem decodeOfEncode : Obligations.DecodeOfEncode := fun _ _ => decodeInstr_encode

end Sys2Proof.Proofs
end

section
/-! PROOF. Encoding the instruction of a word gives the word back, so the table row of the instruction matches it:
41_decoder.md R80, 48_formatter.md R145. -/

namespace Sys2Proof

variable {p : Params} {w : Word} {i : Instr} {opc : ROpcode} {rd rs1 rs2 : RegIndex} {funct3 : Funct3} {funct7 : Funct7}
  {opcode : Opcode} {imm : Int}

theorem recogniseR_ok (h : recogniseR opc rd funct3 rs1 rs2 funct7 = .ok i) (ho : rOpcodeOk p opc = true) :
    i.wellFormed p = true ∧ encode i = packR opc.bits rd funct3 rs1 rs2 funct7 := by
  unfold recogniseR at h
  split at h
  case h_1 | h_6 =>
    split_ifs at h with h0 h32 <;> cases h
    · subst h0; exact ⟨by simp [Instr.wellFormed, ho], rfl⟩
    · subst h32; exact ⟨ho, rfl⟩
  all_goals cases h; exact ⟨ho, rfl⟩

theorem recogniseLoad_ok (h : recogniseLoad rd funct3 rs1 imm = .ok i) (hi : immOk12 imm = true) :
    i.wellFormed p = true ∧ encode i = packI 0b0000011 rd funct3 rs1 (.ofInt 12 imm) := by
  unfold recogniseLoad at h
  split at h <;> cases h <;> exact ⟨hi, rfl⟩

theorem recogniseAluImm_ok (h : recogniseAluImm p rd funct3 rs1 imm = .ok i) (hi : immOk12 imm = true) :
    i.wellFormed p = true ∧ encode i = packI 0b0010011 rd funct3 rs1 (.ofInt 12 imm) := by
  unfold recogniseAluImm at h
  split at h
  case h_6 =>
    split at h <;> rename_i hp <;> split_ifs at h with h0 h32 <;> cases h
    · exact ⟨(srliImmOk_iff hi).mpr (.inl ⟨hp, h0⟩), rfl⟩
    · exact ⟨(sraiImmOk_iff hi).mpr (.inl ⟨hp, h32⟩), rfl⟩
    · exact ⟨(srliImmOk_iff hi).mpr (.inr ⟨hp, h0⟩), rfl⟩
    · exact ⟨(sraiImmOk_iff hi).mpr (.inr ⟨hp, h32⟩), rfl⟩
  all_goals cases h; exact ⟨hi, rfl⟩

theorem recogniseSystem_ok (h : recogniseSystem rd funct3 rs1 imm = .ok i) :
    i.wellFormed p = true ∧ encode i = packI 0b1110011 rd funct3 rs1 (.ofInt 12 imm) := by
  unfold recogniseSystem at h
  split_ifs at h <;> cases h <;> subst_vars <;> exact ⟨rfl, rfl⟩

theorem recogniseI_ok (h : recogniseI p opcode rd funct3 rs1 imm = .ok i) (hi : immOk12 imm = true) :
    i.wellFormed p = true ∧ encode i = packI opcode rd funct3 rs1 (.ofInt 12 imm) := by
  unfold recogniseI at h
  split_ifs at h <;> subst_vars
  · cases h
    exact ⟨hi, rfl⟩
  · exact recogniseLoad_ok h hi
  · exact recogniseAluImm_ok h hi
  · exact recogniseSystem_ok h

theorem recogniseS_ok (h : recogniseS funct3 rs1 rs2 imm = .ok i) (hi : immOk12 imm = true) :
    i.wellFormed p = true ∧ encode i = packS 0b0100011 funct3 rs1 rs2 (.ofInt 12 imm) := by
  unfold recogniseS at h
  split at h <;> cases h <;> exact ⟨hi, rfl⟩

theorem recogniseB_ok (h : recogniseB funct3 rs1 rs2 imm = .ok i) (hi : immOkB imm = true) :
    i.wellFormed p = true ∧ encode i = packB 0b1100011 funct3 rs1 rs2 (.ofInt 13 imm) := by
  unfold recogniseB at h
  split at h <;> cases h <;> exact ⟨hi, rfl⟩

/-! Re-packing the fields of a word with the immediate as an integer gives the word (41_decoder.md R80). -/

theorem packI_immI (w : Word) :
    packI (extract w 0 7) (extract w 7 5) (extract w 12 3) (extract w 15 5) (.ofInt 12 (immI w)) = w := by
  rw [immI, ofInt_sext, packI_extract]

theorem packS_immS (w : Word) :
    packS (extract w 0 7) (extract w 12 3) (extract w 15 5) (extract w 20 5) (.ofInt 12 (immS w)) = w := by
  rw [immS]; exact (congrArg _ (ofInt_sext (n := 12) _)).trans (packS_extract w)

theorem packB_immB (w : Word) :
    packB (extract w 0 7) (extract w 12 3) (extract w 15 5) (extract w 20 5) (.ofInt 13 (immB w)) = w := by
  rw [immB]; exact (congrArg _ (ofInt_sext (n := 13) _)).trans (packB_extract w)

theorem packU_immU (w : Word) : packU (extract w 0 7) (extract w 7 5) (.ofInt 20 (immU w)) = w := by
  rw [immU, ofInt_sext, packU_extract]

theorem packJ_immJ (w : Word) : packJ (extract w 0 7) (extract w 7 5) (.ofInt 21 (immJ w)) = w := by
  rw [immJ]; exact (congrArg _ (ofInt_sext (n := 21) _)).trans (packJ_extract w)

/-- An R-type opcode that selects the word is admitted by the policy for every word, or the word is the zero word. -/
theorem ROpcode.Selects.ok_or_zero (h : opc.Selects p w) : rOpcodeOk p opc = true ∨ (opc = .zero ∧ w = 0) := by
  cases opc with
  | op => exact .inl rfl
  | zero => exact h.2.elim (fun hw => .inr ⟨rfl, hw⟩) fun hp => .inl (decide_eq_true hp)

/-- A word that decodes to an instruction is that instruction's word, and FENCE, which keeps nothing, tells its opcode. -/
theorem encode_of_decodeInstr (h : decodeInstr p w = .ok i) :
    i.wellFormed p = true ∧ (encode i = w ∨ (i = .fence ∧ extract w 0 7 = 0b0001111)) := by
  rcases opcode_cases p w with ⟨opc, ho⟩ | ho | ho | ho | ho | ho | ho | ho | ⟨hd, -⟩
  · rw [decodeInstr_R ho] at h
    rcases ho.ok_or_zero with hp | ⟨rfl, rfl⟩
    · have := recogniseR_ok h hp
      rw [← ho.opcode_eq, packR_extract] at this
      exact this.imp_right .inl
    · cases h
      exact ⟨(Bool.or_eq_true ..).mpr (.inr rfl), .inl rfl⟩
  · rw [decodeInstr_I ho] at h
    have := recogniseI_ok h (immI_ok w)
    rw [packI_immI] at this
    exact this.imp_right .inl
  · rw [decodeInstr_S ho] at h
    have := recogniseS_ok (p := p) h (immS_ok w)
    rw [← ho, packS_immS] at this
    exact this.imp_right .inl
  · rw [decodeInstr_B ho] at h
    have := recogniseB_ok (p := p) h (immB_ok w)
    rw [← ho, packB_immB] at this
    exact this.imp_right .inl
  · rw [decodeInstr_lui ho] at h
    cases h
    exact ⟨immU_ok w, .inl (by rw [encode, ← ho, packU_immU])⟩
  · rw [decodeInstr_auipc ho] at h
    cases h
    exact ⟨immU_ok w, .inl (by rw [encode, ← ho, packU_immU])⟩
  · rw [decodeInstr_jal ho] at h
    cases h
    exact ⟨immJ_ok w, .inl (by rw [encode, ← ho, packJ_immJ])⟩
  · rw [decodeInstr_fence ho] at h
    cases h
    exact ⟨rfl, .inr ⟨rfl, ho⟩⟩
  · rw [decodeInstr_invalid hd] at h
    cases h

end Sys2Proof

namespace Sys2Proof.Laws.EncodesToRow

theorem statement (i : Instr) : Statement i := by
  cases i
  exacts [add .., sub .., sll .., slt .., sltu .., xor .., srl .., sra .., or .., and .., jalr .., lb .., lh .., lw ..,
    lbu .., lhu .., addi .., slti .., sltiu .., xori .., ori .., andi .., slli .., srli .., srai .., ecall .., ebreak ..,
    sb .., sh .., sw .., beq .., bne .., blt .., bge .., bltu .., bgeu .., lui .., auipc .., jal .., fence]

end Sys2Proof.Laws.EncodesToRow
end

section
/-! PROOF. The operation select of a word, layout by layout, and the opcode table: 30_encoding.md R53, 48_formatter.md
R138, R140, R145. -/

namespace Sys2Proof.Machine

open Sys2Proof.Spec

variable {p : Params} {w : Word} {r : Decoded} {i : Instr} {opc : ROpcode} {row : TableRow}

theorem classify_decode_R (h : opc.Selects p w) :
    classify p (decode p w) = classifyR (extract w 12 3) (extract w 25 7) := by
  rw [decode_of_rOpcode h]; rfl

theorem classify_decode_I (h : IsIOpcode (extract w 0 7)) :
    classify p (decode p w) = classifyI p (extract w 0 7) (extract w 12 3) (immI w) := by
  rw [decode_parseI h]; rfl

theorem classify_decode_S (h : extract w 0 7 = 0b0100011) :
    classify p (decode p w) = classifyS (extract w 12 3) := by
  rw [decode_parseS h]; rfl

theorem classify_decode_B (h : extract w 0 7 = 0b1100011) :
    classify p (decode p w) = classifyB (extract w 12 3) := by
  rw [decode_parseB h]; rfl

theorem op_eq_classify (h : recognise p r = .ok i) : i.op = classify p r := by
  obtain ⟨record, text, hexec⟩ := exec_eq_deliver i ⟨p, [], []⟩
  rw [exec_of_recognise h rfl] at hexec
  simp [deliver, State.addResult] at hexec
  exact hexec.2.1.symm

theorem op_eq_classify_decode (h : decodeInstr p w = .ok i) : i.op = classify p (decode p w) :=
  op_eq_classify (decodeInstr_ok h)

/-- The operation select is `UNKNOWN` exactly for the words that are no instruction (30_encoding.md R54). -/
theorem classify_eq_unknown_iff : classify p (decode p w) = .UNKNOWN ↔ ∃ e, decodeInstr p w = .error e := by
  cases h : decodeInstr p w with
  | error e => simp [classify_of_decodeInstr_error h]
  | ok i => simp [← op_eq_classify_decode h, op_ne_unknown]

/-- From the select to the table: the row of the word's instruction. -/
theorem exists_row_of_classify_ne_unknown (h : classify p (decode p w) ≠ .UNKNOWN) :
    ∃ row ∈ opcodeTable p, row.op = classify p (decode p w) ∧ row.matchesWord w := by
  cases hi : decodeInstr p w with
  | error e => exact absurd (classify_of_decodeInstr_error hi) h
  | ok i =>
    rw [← op_eq_classify_decode hi]
    obtain ⟨hwf, hw | ⟨rfl, ho⟩⟩ := encode_of_decodeInstr hi
    · exact hw ▸ (Laws.EncodesToRow.statement i).2 p hwf
    · exact Laws.EncodesToRow.row (row := ⟨.FENCE, "FENCE", 0x0000000F, 0x0000007F⟩)
        (by simp [opcodeTable, tableUJFence]) rfl ((matches_opcode (by decide)).mpr ho)

/-! From the table to the select, one lemma a part of the table. -/

theorem and_ones12 (x : BitVec 12) : x &&& 4095#12 = x := BitVec.and_allOnes

/-- A matched field: the word's field under the mask's is the pattern's. -/
theorem field_of_match (h : row.matchesWord w) (off n : Nat) (hd) :
    extract w off n hd &&& extract row.mask off n hd = extract row.pattern off n hd := by
  rw [← extract_and, h]

theorem classifyR_of_match {funct3 : Funct3} {funct7 : Funct7} (hrow : row ∈ tableR)
    (h3 : funct3 &&& extract row.mask 12 3 = extract row.pattern 12 3)
    (h7 : funct7 &&& extract row.mask 25 7 = extract row.pattern 25 7) : classifyR funct3 funct7 = row.op := by
  simp only [tableR, List.mem_cons, List.not_mem_nil, or_false] at hrow
  rcases hrow with rfl | rfl | rfl | rfl | rfl | rfl | rfl | rfl | rfl | rfl
  all_goals
    simp [extract_ofNat, and_ones3, and_ones7] at h3 h7
    simp [classifyR, h3, h7]

theorem tableR_opcode : ∀ row ∈ tableR, extract row.mask 0 7 = 127 ∧ extract row.pattern 0 7 = 0b0110011 := by decide

theorem classify_of_tableR (hrow : row ∈ tableR) (h : row.matchesWord w) : classify p (decode p w) = row.op := by
  have h0 := field_of_match h 0 7 (by decide)
  rw [(tableR_opcode row hrow).1, (tableR_opcode row hrow).2] at h0
  rw [classify_decode_R (opc := .op) ((and_ones7 _).symm.trans h0)]
  exact classifyR_of_match hrow (field_of_match h ..) (field_of_match h ..)

theorem classify_of_tableOpcodeZero (hrow : row ∈ tableOpcodeZero p) (h : row.matchesWord w) :
    classify p (decode p w) = row.op := by
  unfold tableOpcodeZero at hrow
  split at hrow
  next =>
    obtain rfl := List.mem_singleton.mp hrow
    have hw : w = 0 := BitVec.and_allOnes.symm.trans h
    rw [hw, classify_decode_R (opc := .zero) ⟨rfl, .inl rfl⟩]
    rfl
  next hp =>
    obtain ⟨row, hmem, rfl⟩ := List.mem_map.mp hrow
    have h0 := field_of_match h 0 7 (by decide)
    have h3 := field_of_match h 12 3 (by decide)
    have h7 := field_of_match h 25 7 (by decide)
    simp only [extract_and] at h0 h3 h7
    rw [(tableR_opcode row hmem).1] at h0
    rw [classify_decode_R (opc := .zero) ⟨(and_ones7 _).symm.trans (h0.trans BitVec.and_zero), .inr hp⟩]
    exact classifyR_of_match (row := row) hmem (h3.trans (and_ones3 _)) (h7.trans (and_ones7 _))

theorem classify_of_tableI (hrow : row ∈ tableI) (h : row.matchesWord w) : classify p (decode p w) = row.op := by
  have h0 := field_of_match h 0 7 (by decide)
  have h3 := field_of_match h 12 3 (by decide)
  have h12 := field_of_match h 20 12 (by decide)
  simp only [tableI, List.mem_cons, List.not_mem_nil, or_false] at hrow
  rcases hrow with rfl | rfl | rfl | rfl | rfl | rfl | rfl | rfl | rfl | rfl | rfl | rfl | rfl | rfl | rfl
  all_goals
    simp [extract_ofNat, and_ones3, and_ones7, and_ones12] at h0 h3 h12
    rw [classify_decode_I (by rw [h0]; decide)]
    simp [classifyI, h0, h3, h12, immI_eq_zero_iff, immI_eq_one_iff]

theorem shiftKey_immI (w : Word) :
    (shiftKey p (immI w) = 0 ↔ (p.shift = .funct7Field ∧ extract w 25 7 = 0) ∨
      (p.shift = .wholeImm ∧ extract w 20 12 = 0)) ∧
    (shiftKey p (immI w) = 0x20 ↔ (p.shift = .funct7Field ∧ extract w 25 7 = 0b0100000) ∨
      (p.shift = .wholeImm ∧ extract w 20 12 = 0x20)) := by
  rw [← immUpper_immI, ← immI_eq_zero_iff, ← immI_eq_32_iff, shiftKey, ← BitVec.toNat_inj, ← BitVec.toNat_inj]
  cases p.shift with
  | funct7Field => simp; omega
  | wholeImm => simp

theorem classify_of_tableShiftImm (hrow : row ∈ tableShiftImm p) (h : row.matchesWord w) :
    classify p (decode p w) = row.op := by
  have h0 := field_of_match h 0 7 (by decide)
  have h3 := field_of_match h 12 3 (by decide)
  have h7 := field_of_match h 25 7 (by decide)
  have h12 := field_of_match h 20 12 (by decide)
  have hkey := shiftKey_immI (p := p) w
  unfold tableShiftImm at hrow
  split at hrow <;> rename_i hp <;> simp only [List.mem_cons, List.not_mem_nil, or_false] at hrow <;>
    rcases hrow with rfl | rfl
  all_goals
    simp [extract_ofNat, and_ones3, and_ones7, and_ones12] at h0 h3 h7 h12
    rw [classify_decode_I (by rw [h0]; decide)]
    simp [classifyI, h0, h3, hkey, hp, h7, h12]

theorem classify_of_tableSB (hrow : row ∈ tableSB) (h : row.matchesWord w) : classify p (decode p w) = row.op := by
  have h0 := field_of_match h 0 7 (by decide)
  have h3 := field_of_match h 12 3 (by decide)
  simp only [tableSB, List.mem_cons, List.not_mem_nil, or_false] at hrow
  rcases hrow with rfl | rfl | rfl | rfl | rfl | rfl | rfl | rfl | rfl
  all_goals simp [extract_ofNat, and_ones3, and_ones7] at h0 h3
  iterate 3 rw [classify_decode_S h0, h3]; rfl
  all_goals rw [classify_decode_B h0, h3]; rfl

theorem classify_of_tableUJFence (hrow : row ∈ tableUJFence) (h : row.matchesWord w) :
    classify p (decode p w) = row.op := by
  have h0 := field_of_match h 0 7 (by decide)
  simp only [tableUJFence, List.mem_cons, List.not_mem_nil, or_false] at hrow
  rcases hrow with rfl | rfl | rfl | rfl <;> simp [extract_ofNat, and_ones7] at h0
  · rw [← op_eq_classify_decode (decodeInstr_lui h0)]; rfl
  · rw [← op_eq_classify_decode (decodeInstr_auipc h0)]; rfl
  · rw [← op_eq_classify_decode (decodeInstr_jal h0)]; rfl
  · rw [← op_eq_classify_decode (decodeInstr_fence h0)]; rfl

theorem classify_of_row (hrow : row ∈ opcodeTable p) (h : row.matchesWord w) : classify p (decode p w) = row.op := by
  simp only [opcodeTable, List.mem_append] at hrow
  rcases hrow with ((((hrow | hrow) | hrow) | hrow) | hrow) | hrow
  · exact classify_of_tableR hrow h
  · exact classify_of_tableOpcodeZero hrow h
  · exact classify_of_tableI hrow h
  · exact classify_of_tableShiftImm hrow h
  · exact classify_of_tableSB hrow h
  · exact classify_of_tableUJFence hrow h

/-- No row of the table is a row of `UNKNOWN`. -/
theorem opcodeTable_op_ne_unknown (p : Params) : ∀ row ∈ opcodeTable p, row.op ≠ .UNKNOWN := by
  obtain ⟨opc0, shift, sep⟩ := p
  cases opc0 <;> cases shift <;> cases sep <;> decide

theorem classify_ne_unknown_iff_row :
    classify p (decode p w) ≠ .UNKNOWN ↔ ∃ row ∈ opcodeTable p, w &&& row.mask = row.pattern := by
  constructor
  · intro h
    obtain ⟨row, hrow, -, hm⟩ := exists_row_of_classify_ne_unknown h
    exact ⟨row, hrow, hm⟩
  · rintro ⟨row, hrow, hm⟩
    rw [classify_of_row hrow hm]
    exact opcodeTable_op_ne_unknown p row hrow

/-- Two rows whose patterns differ on the bits that both masks test have no word in common. -/
theorem not_both_match {a b : TableRow} (hab : a.pattern &&& b.mask ≠ b.pattern &&& a.mask) (w : Word) :
    ¬(a.matchesWord w ∧ b.matchesWord w) := by
  rintro ⟨ha, hb⟩
  rw [← show w &&& a.mask = a.pattern from ha, ← show w &&& b.mask = b.pattern from hb] at hab
  exact hab (by rw [BitVec.and_assoc, BitVec.and_assoc, BitVec.and_comm a.mask])

theorem opcodeTable_patterns_differ (p : Params) :
    (opcodeTable p).Pairwise fun a b => a.pattern &&& b.mask ≠ b.pattern &&& a.mask := by
  obtain ⟨opc0, shift, sep⟩ := p
  cases opc0 <;> cases shift <;> cases sep <;> decide

theorem opcodeTable_pairwise (p : Params) (w : Word) :
    (opcodeTable p).Pairwise fun a b => ¬(a.matchesWord w ∧ b.matchesWord w) :=
  (opcodeTable_patterns_differ p).imp fun hab => not_both_match hab w

end Sys2Proof.Machine
end

section
/-! PROOF. The statements of 30_encoding.md about the opcode table: R53, R55. -/

namespace Sys2Proof.Proofs

open Sys2Proof.Machine

/-- Settles O23: a word of the operation decodes to an instruction, whose table row matches the instruction's word; and
every part of the table selects its rows' operations. -/
theorem opcodeTableIsTheOperationSelect : Obligations.OpcodeTableIsTheOperationSelect := by
  intro p w op hop
  constructor
  · rintro rfl
    exact exists_row_of_classify_ne_unknown hop
  · rintro ⟨row, hrow, rfl, hm⟩
    exact classify_of_row hrow hm

/-- Settles O27: the recognised words are those of the table's rows, which are disjoint, and a row has as many words as
its mask leaves free. -/
theorem recognisedWordCount : Obligations.RecognisedWordCount := by
  unfold Obligations.RecognisedWordCount
  calc (Finset.univ.filter fun w : Word => classify Params.default (decode Params.default w) ≠ .UNKNOWN).card
      = (Finset.univ.filter fun w : Word => ∃ row ∈ opcodeTable .default, w &&& row.mask = row.pattern).card := by
        simp only [classify_ne_unknown_iff_row]
    _ = ((opcodeTable .default).map fun row =>
          (Finset.univ.filter fun w : Word => w &&& row.mask = row.pattern).card).sum :=
        card_exists_of_pairwise _ (opcodeTable_pairwise .default)
    _ = ((opcodeTable .default).map fun row => wordsOfMask row.mask).sum := by
        rw [List.map_congr_left fun row hrow => card_row hrow]
    _ = 281231361 := by decide

end Sys2Proof.Proofs
end

section
/-! PROOF. The nine classes of words that are no instruction: 30_encoding.md R54, R55. -/

namespace Sys2Proof

open Sys2Proof.Spec

variable {p : Params} {w : Word} {e : Unrecognised} {opc : ROpcode} {rd rs1 rs2 : RegIndex} {funct3 : Funct3}
  {funct7 : Funct7} {imm : Int}

/-- The words of each class, by the table of 30_encoding.md R55; no word has the record of the last. -/
def Unrecognised.Class (p : Params) (w : Word) : Unrecognised → Prop
  | .opcode       => Spec.opcode w ∉ listedOpcodes ∧ Spec.opcode w ≠ 0b0000000
  | .opcodeZero   => Spec.opcode w = 0b0000000 ∧ w ≠ 0 ∧ p.opc0 = .zeroWordOnly
  | .addFunct7    => (Spec.opcode w = 0b0110011 ∨ (Spec.opcode w = 0b0000000 ∧ (w = 0 ∨ p.opc0 = .rAll))) ∧
      Spec.funct3 w = 0b000 ∧ Spec.funct7 w ≠ 0b0000000 ∧ Spec.funct7 w ≠ 0b0100000
  | .shiftFunct7  => (Spec.opcode w = 0b0110011 ∨ (Spec.opcode w = 0b0000000 ∧ (w = 0 ∨ p.opc0 = .rAll))) ∧
      Spec.funct3 w = 0b101 ∧ Spec.funct7 w ≠ 0b0000000 ∧ Spec.funct7 w ≠ 0b0100000
  | .loadFunct3   => Spec.opcode w = 0b0000011 ∧ (Spec.funct3 w = 0b011 ∨ Spec.funct3 w = 0b110 ∨ Spec.funct3 w = 0b111)
  | .shiftImm     => Spec.opcode w = 0b0010011 ∧ Spec.funct3 w = 0b101 ∧
      (p.shift = .funct7Field → Spec.funct7 w ≠ 0b0000000 ∧ Spec.funct7 w ≠ 0b0100000) ∧
      (p.shift = .wholeImm → Spec.patI w ≠ 0 ∧ Spec.patI w ≠ 0x20)
  | .systemImm    => Spec.opcode w = 0b1110011 ∧ Spec.patI w ≠ 0 ∧ Spec.patI w ≠ 1
  | .storeFunct3  => Spec.opcode w = 0b0100011 ∧ 0b011 ≤ Spec.funct3 w
  | .branchFunct3 => Spec.opcode w = 0b1100011 ∧ (Spec.funct3 w = 0b010 ∨ Spec.funct3 w = 0b011)
  | .recordOpcode => False

/-- The tag of the records of each class, by the same table. -/
def Unrecognised.tag : Unrecognised → Tag
  | .opcode | .opcodeZero | .recordOpcode => .INVALID
  | .addFunct7 | .shiftFunct7 => .R
  | .loadFunct3 | .shiftImm | .systemImm => .I
  | .storeFunct3 => .S
  | .branchFunct3 => .B

/-! What each recogniser rejects, and by which name. -/

theorem recogniseR_error : recogniseR opc rd funct3 rs1 rs2 funct7 = .error e ↔
    (funct7 ≠ 0b0000000 ∧ funct7 ≠ 0b0100000) ∧
      ((funct3 = 0b000 ∧ e = .addFunct7) ∨ (funct3 = 0b101 ∧ e = .shiftFunct7)) := by
  unfold recogniseR
  split
  case h_1 | h_6 => split_ifs with h0 h32 <;> simp_all [eq_comm (b := e)]
  all_goals simp

theorem recogniseLoad_error : recogniseLoad rd funct3 rs1 imm = .error e ↔
    (funct3 = 0b011 ∨ funct3 = 0b110 ∨ funct3 = 0b111) ∧ e = .loadFunct3 := by
  unfold recogniseLoad
  split <;> simp [eq_comm (b := e)]

theorem recogniseAluImm_error : recogniseAluImm p rd funct3 rs1 (immI w) = .error e ↔
    (funct3 = 0b101 ∧ (p.shift = .funct7Field → extract w 25 7 ≠ 0b0000000 ∧ extract w 25 7 ≠ 0b0100000) ∧
      (p.shift = .wholeImm → extract w 20 12 ≠ 0 ∧ extract w 20 12 ≠ 0x20)) ∧ e = .shiftImm := by
  unfold recogniseAluImm
  split
  case h_6 =>
    split <;> rename_i hp <;> simp only [immUpper_immI, immI_eq_zero_iff, immI_eq_32_iff] <;>
      split_ifs with h0 h32 <;> simp_all [eq_comm (b := e)]
  all_goals simp

theorem recogniseSystem_error : recogniseSystem rd funct3 rs1 (immI w) = .error e ↔
    (extract w 20 12 ≠ 0 ∧ extract w 20 12 ≠ 1) ∧ e = .systemImm := by
  simp only [recogniseSystem, immI_eq_zero_iff, immI_eq_one_iff]
  split_ifs with h0 h1 <;> simp_all [eq_comm (b := e)]

theorem recogniseS_error : recogniseS funct3 rs1 rs2 imm = .error e ↔ 0b011 ≤ funct3 ∧ e = .storeFunct3 := by
  unfold recogniseS
  split <;> simp [eq_comm (b := e)]

theorem recogniseB_error : recogniseB funct3 rs1 rs2 imm = .error e ↔
    (funct3 = 0b010 ∨ funct3 = 0b011) ∧ e = .branchFunct3 := by
  unfold recogniseB
  split <;> simp [eq_comm (b := e)]

/-- A word is rejected under the name of its class: the layout's recogniser rejects nothing else. -/
theorem class_of_decodeInstr_error (h : decodeInstr p w = .error e) : e.Class p w := by
  rcases opcode_cases p w with ⟨opc, ho⟩ | (ho | ho | ho | ho) | ho | ho | ho | ho | ho | ho | ⟨hd, ho, hz⟩
  · rw [decodeInstr_R ho, recogniseR_error] at h
    have hR := ROpcode.exists_selects_iff.mp ⟨opc, ho⟩
    obtain ⟨h7, ⟨h3, rfl⟩ | ⟨h3, rfl⟩⟩ := h
    · exact ⟨hR, h3, h7⟩
    · exact ⟨hR, h3, h7⟩
  · rw [decodeInstr_jalr ho] at h; cases h
  · rw [decodeInstr_load ho, recogniseLoad_error] at h
    obtain ⟨h3, rfl⟩ := h
    exact ⟨ho, h3⟩
  · rw [decodeInstr_aluImm ho, recogniseAluImm_error] at h
    obtain ⟨h3, rfl⟩ := h
    exact ⟨ho, h3⟩
  · rw [decodeInstr_system ho, recogniseSystem_error] at h
    obtain ⟨himm, rfl⟩ := h
    exact ⟨ho, himm⟩
  · rw [decodeInstr_S ho, recogniseS_error] at h
    obtain ⟨h3, rfl⟩ := h
    exact ⟨ho, h3⟩
  · rw [decodeInstr_B ho, recogniseB_error] at h
    obtain ⟨h3, rfl⟩ := h
    exact ⟨ho, h3⟩
  · rw [decodeInstr_lui ho] at h; cases h
  · rw [decodeInstr_auipc ho] at h; cases h
  · rw [decodeInstr_jal ho] at h; cases h
  · rw [decodeInstr_fence ho] at h; cases h
  · rw [decodeInstr_invalid hd] at h
    split_ifs at h with h0 <;> cases h
    · refine ⟨h0, fun hw => hz ⟨h0, .inl hw⟩, ?_⟩
      cases hp : p.opc0 with
      | zeroWordOnly => rfl
      | rAll => exact absurd ⟨h0, .inr hp⟩ hz
    · exact ⟨ho, h0⟩

theorem decode_invalid_of_unlisted (ho : opcode w ∉ listedOpcodes)
    (hz : ¬(opcode w = 0b0000000 ∧ (w = 0 ∨ p.opc0 = .rAll))) : decode p w = .invalid := by
  have hne : ∀ k ∈ listedOpcodes, extract w 0 7 ≠ k := fun k hk h =>
    ho ((show opcode w = k from h).symm ▸ hk)
  have hz' : ¬(extract w 0 7 = 0b0000000 ∧ (w = 0 ∨ p.opc0 = .rAll)) := hz
  simp only [List.forall_mem_cons] at hne
  simp only [decode, hne, hz', or_self, if_false]

theorem decode_invalid_of_opcodeZero (h0 : opcode w = 0b0000000) (hw : w ≠ 0) (hp : p.opc0 = .zeroWordOnly) :
    decode p w = .invalid := by
  refine decode_invalid_of_unlisted (by rw [h0]; decide) fun hz => ?_
  rw [hp] at hz
  exact hz.2.elim hw nofun

theorem decodeInstr_error_of_class (h : e.Class p w) : decodeInstr p w = .error e := by
  cases e with
  | opcode =>
    obtain ⟨ho, (h0 : extract w 0 7 ≠ 0)⟩ := h
    rw [decodeInstr_invalid (decode_invalid_of_unlisted ho fun hz => h0 hz.1), if_neg h0]
  | opcodeZero =>
    obtain ⟨(h0 : extract w 0 7 = 0), hw, hp⟩ := h
    rw [decodeInstr_invalid (decode_invalid_of_opcodeZero h0 hw hp), if_pos h0]
  | addFunct7 =>
    obtain ⟨hR, h3, h7⟩ := h
    obtain ⟨opc, ho⟩ := ROpcode.exists_selects_iff.mpr hR
    rw [decodeInstr_R ho]
    exact recogniseR_error.mpr ⟨h7, .inl ⟨h3, rfl⟩⟩
  | shiftFunct7 =>
    obtain ⟨hR, h3, h7⟩ := h
    obtain ⟨opc, ho⟩ := ROpcode.exists_selects_iff.mpr hR
    rw [decodeInstr_R ho]
    exact recogniseR_error.mpr ⟨h7, .inr ⟨h3, rfl⟩⟩
  | loadFunct3 =>
    obtain ⟨ho, h3⟩ := h
    rw [decodeInstr_load ho]
    exact recogniseLoad_error.mpr ⟨h3, rfl⟩
  | shiftImm =>
    obtain ⟨ho, hkey⟩ := h
    rw [decodeInstr_aluImm ho]
    exact recogniseAluImm_error.mpr ⟨hkey, rfl⟩
  | systemImm =>
    obtain ⟨ho, himm⟩ := h
    rw [decodeInstr_system ho]
    exact recogniseSystem_error.mpr ⟨himm, rfl⟩
  | storeFunct3 =>
    obtain ⟨ho, h3⟩ := h
    rw [decodeInstr_S ho]
    exact recogniseS_error.mpr ⟨h3, rfl⟩
  | branchFunct3 =>
    obtain ⟨ho, h3⟩ := h
    rw [decodeInstr_B ho]
    exact recogniseB_error.mpr ⟨h3, rfl⟩
  | recordOpcode => exact h.elim

theorem decodeInstr_error_iff : decodeInstr p w = .error e ↔ e.Class p w :=
  ⟨class_of_decodeInstr_error, decodeInstr_error_of_class⟩

/-- The record of a rejected word has the tag of its class. -/
theorem tag_of_class (h : e.Class p w) : (decode p w).tag = e.tag := by
  cases e with
  | opcode => rw [decode_invalid_of_unlisted h.1 fun hz => h.2 hz.1]; rfl
  | opcodeZero =>
    obtain ⟨h0, hw, hp⟩ := h
    rw [decode_invalid_of_opcodeZero h0 hw hp]; rfl
  | addFunct7 | shiftFunct7 =>
    obtain ⟨opc, ho⟩ := ROpcode.exists_selects_iff.mpr h.1
    rw [decode_of_rOpcode ho]; rfl
  | loadFunct3 => rw [decode_parseI (.inr (.inl h.1))]; rfl
  | shiftImm => rw [decode_parseI (.inr (.inr (.inl h.1)))]; rfl
  | systemImm => rw [decode_parseI (.inr (.inr (.inr h.1)))]; rfl
  | storeFunct3 => rw [decode_parseS h.1]; rfl
  | branchFunct3 => rw [decode_parseB h.1]; rfl
  | recordOpcode => exact h.elim

end Sys2Proof
end

section
/-! PROOF. The classes of 30_encoding.md R55. -/

namespace Sys2Proof.Proofs

open Sys2Proof.Machine

/-- Settles O26: the decoder rejects a word under a name exactly when it is in the class of that name, and `UNKNOWN` is
what every rejected word gets and no other. -/
theorem unknownWordsAreTheNineClasses : Obligations.UnknownWordsAreTheNineClasses := by
  intro p w
  refine ⟨decodeInstr_error_iff, decodeInstr_error_iff, decodeInstr_error_iff, decodeInstr_error_iff,
    decodeInstr_error_iff, decodeInstr_error_iff, decodeInstr_error_iff, decodeInstr_error_iff,
    decodeInstr_error_iff, decodeInstr_ne_recordOpcode, ?_, fun e h => ?_⟩
  · rw [← classify_eq_unknown_iff]
    exact decide_eq_false_iff_not.trans not_not
  · rw [tag_of_class (decodeInstr_error_iff.mp h)]
    cases e <;> rfl

end Sys2Proof.Proofs
end

section
/-! PROOF. The tag of a word by its opcode: 30_encoding.md R43 to R45, 41_decoder.md R69, R79. -/

namespace Sys2Proof

open Sys2Proof.Spec

variable {p : Params} {w : Word} {t : Tag}

/-- The opcodes of each tag, by the tables of 30_encoding.md R43 and R45. -/
def Tag.Opcodes (p : Params) (w : Word) : Tag → Prop
  | .U       => opcode w = 0b0110111 ∨ opcode w = 0b0010111
  | .J       => opcode w = 0b1101111
  | .I       => opcode w = 0b1100111 ∨ opcode w = 0b0000011 ∨ opcode w = 0b0010011 ∨ opcode w = 0b1110011
  | .B       => opcode w = 0b1100011
  | .S       => opcode w = 0b0100011
  | .R       => opcode w = 0b0110011 ∨ (opcode w = 0b0000000 ∧ (w = 0 ∨ p.opc0 = .rAll))
  | .FENCE   => opcode w = 0b0001111
  | .INVALID => opcode w ∉ listedOpcodes ∧ ¬(opcode w = 0b0000000 ∧ (w = 0 ∨ p.opc0 = .rAll))

theorem opcodes_of_decode_tag (p : Params) (w : Word) : (decode p w).tag.Opcodes p w := by
  rcases opcode_cases p w with ⟨opc, ho⟩ | ho | ho | ho | ho | ho | ho | ho | ⟨hd, ho⟩
  · rw [decode_of_rOpcode ho]; exact ROpcode.exists_selects_iff.mp ⟨opc, ho⟩
  · rw [decode_parseI ho]; exact ho
  · rw [decode_parseS ho]; exact ho
  · rw [decode_parseB ho]; exact ho
  · rw [decode_parseU (.inl ho)]; exact .inl ho
  · rw [decode_parseU (.inr ho)]; exact .inr ho
  · rw [decode_parseJ ho]; exact ho
  · rw [decode_fence ho]; exact ho
  · rw [hd]; exact ho

theorem decode_tag_of_opcodes (h : t.Opcodes p w) : (decode p w).tag = t := by
  cases t with
  | R =>
    obtain ⟨opc, ho⟩ := ROpcode.exists_selects_iff.mpr h
    rw [decode_of_rOpcode ho]; rfl
  | I => rw [decode_parseI h]; rfl
  | S => rw [decode_parseS h]; rfl
  | B => rw [decode_parseB h]; rfl
  | U => rw [decode_parseU h]; rfl
  | J => rw [decode_parseJ h]; rfl
  | FENCE => rw [decode_fence h]; rfl
  | INVALID => rw [decode_invalid_of_unlisted h.1 h.2]; rfl

theorem decode_tag_iff : (decode p w).tag = t ↔ t.Opcodes p w :=
  ⟨fun h => h ▸ opcodes_of_decode_tag p w, decode_tag_of_opcodes⟩

/-- Every listed opcode is that of a 32-bit word: its low two bits are `11`. -/
theorem low_bits_of_listed (h : opcode w ∈ listedOpcodes) : w.extractLsb 1 0 = 0b11#2 := by
  have hlow : ∀ k ∈ listedOpcodes, k.extractLsb' 0 2 = 0b11#2 := by decide
  have hword : w.extractLsb 1 0 = (opcode w).extractLsb' 0 2 := by
    ext i hi
    simp
    omega
  rw [hword, hlow _ h]

end Sys2Proof
end

section
/-! PROOF. What the operation select and the text leave unread (30_encoding.md R56), and the text shapes of 30_encoding.md
R61 with the letter of the first register joined to the mnemonic. -/

namespace Sys2Proof.Machine

open Sys2Proof.Spec

variable {p : Params} {w : Word} {funct3 : Funct3}

theorem textThreeRegs_eq (p : Params) (name : String) (a b c : RegIndex) :
    textThreeRegs p.sep name a b c = text3 p name a b c := by
  simp only [textThreeRegs, regText, String.append_assoc, show " x" = " " ++ "x" from rfl]

theorem textTwoRegsImm_eq (p : Params) (name : String) (a b : RegIndex) (imm : Int) :
    textTwoRegsImm p.sep name a b imm = text2Imm p name a b imm := by
  simp only [textTwoRegsImm, regText, String.append_assoc, show " x" = " " ++ "x" from rfl]

/-- What the algorithm gives for a word, a step on that word delivers. -/
theorem gives_of_evaluate {o : Output} (h : evaluate p w = o) : Gives p w o := by
  refine ⟨h, fun s rest hp hs => ?_⟩
  subst hp h
  exact step_eq_evaluate hs

theorem evaluate_op (p : Params) (w : Word) : (evaluate p w).op = classify p (decode p w) := rfl
theorem evaluate_text (p : Params) (w : Word) : (evaluate p w).text = format p (decode p w) := rfl

theorem classifyR_ne_unknown (h0 : funct3 ≠ 0b000) (h5 : funct3 ≠ 0b101) (funct7 : Funct7) :
    classifyR funct3 funct7 ≠ .UNKNOWN := by
  unfold classifyR
  split
  case h_1 => exact absurd rfl h0
  case h_6 => exact absurd rfl h5
  all_goals nofun

theorem classifyR_ignores_funct7 (h0 : funct3 ≠ 0b000) (h5 : funct3 ≠ 0b101) (funct7 funct7' : Funct7) :
    classifyR funct3 funct7 = classifyR funct3 funct7' := by
  unfold classifyR
  split
  case h_1 => exact absurd rfl h0
  case h_6 => exact absurd rfl h5
  all_goals rfl

/-- Of an R-type record only the three registers are printed. -/
theorem render_rType (sep : TextSeparator) (o o' : Opcode) (a : RegIndex) (f3 f3' : Funct3) (b c : RegIndex)
    (f7 f7' : Funct7) (op : Op) :
    render sep (.rType o a f3 b c f7) op = render sep (.rType o' a f3' b c f7') op := by
  cases op <;> rfl

theorem format_slli (a b : RegIndex) (imm : Int) :
    format p (.iType 0b0010011 a 0b001 b imm) = text2Imm p "SLLI" a b (shamt imm) := textTwoRegsImm_eq ..

theorem classify_decode_system (h : opcode w = 0b1110011) :
    classify p (decode p w) = if patI w = 0 then .ECALL else if patI w = 1 then .EBREAK else .UNKNOWN := by
  rw [classify_decode_I (.inr (.inr (.inr h))), show extract w 0 7 = 0b1110011 from h]
  show (if immI w = 0 then Op.ECALL else if immI w = 1 then .EBREAK else .UNKNOWN) = _
  simp only [immI_eq_zero_iff, immI_eq_one_iff]
  rfl

end Sys2Proof.Machine
end

section
/-! PROOF. The statements of 30_encoding.md about the variants and about single classes of words: R44, R45, R54, R56,
R57. -/

namespace Sys2Proof.Proofs

open Sys2Proof.Machine Sys2Proof.Spec

/-- Settles O6: the opcodes of each tag are those of its arm of the multiplexer. -/
theorem opcodeSelectsTheVariant : Obligations.OpcodeSelectsTheVariant :=
  ⟨by decide, fun _ _ => ⟨decode_tag_iff, decode_tag_iff, decode_tag_iff, decode_tag_iff, decode_tag_iff, decode_tag_iff,
    decode_tag_iff, decode_tag_iff⟩⟩

/-- Settles O45: a step is one evaluation, and a rejected word's operation select is `UNKNOWN`. -/
theorem unrecognisedWordsCompleteToo : Obligations.UnrecognisedWordsCompleteToo := by
  intro s w rest e hs he
  have hop : classify s.params (decode s.params w) = .UNKNOWN := classify_of_decodeInstr_error he
  rw [step_eq_evaluate hs, evaluate, format_of_unknown hop, hop]
  rfl

/-- Settles O8: the zero word is parsed as R-type under either policy, the other words with its opcode under `R_ALL`
alone. -/
theorem zeroWordIsAdd : Obligations.ZeroWordIsAdd := by
  have hzero : ∀ p : Params, decode p 0 = .rType 0 0 0 0 0 0 := fun p => decode_zero rfl (.inl rfl)
  have htext : ∀ p : Params, format p (.rType 0 0 0 0 0 0) = text3 p "ADD" 0 0 0 := fun p => textThreeRegs_eq ..
  refine ⟨fun p => gives_of_evaluate ?_, fun p hp => ?_,
    fun p w h0 hw => ⟨decode_invalid_of_opcodeZero h0 hw, fun hp => ?_⟩⟩
  · rw [evaluate_of_decode (hzero p), htext]
    rfl
  · rw [hzero, htext, text3, hp]
    decide
  · rw [decode_zero h0 (.inr hp), parseR, show extract w 0 7 = 0 from h0]
    rfl

/-- Settles O13: the decoder evaluates each of the eight words. -/
theorem writtenOutWordsDecode : Obligations.WrittenOutWordsDecode := by
  unfold Obligations.WrittenOutWordsDecode
  decide

/-- Settles O28: the operation select and the text do not read the fields named, and of an SLLI immediate the text reads
the low five bits. -/
theorem ignoredBitsChangeNothingPrinted : Obligations.IgnoredBitsChangeNothingPrinted := by
  intro p
  refine ⟨fun o a f3 b c f7 f7' h0 h5 => ?_, fun _ _ _ _ _ => ⟨rfl, rfl⟩, fun a b imm imm' => ⟨rfl, fun h => ?_⟩,
    fun _ _ _ => ⟨rfl, rfl, rfl, rfl⟩, fun w h => ?_, fun _ _ => ⟨rfl, rfl⟩, fun _ _ _ => rfl,
    fun _ _ _ _ _ _ _ => ⟨rfl, render_rType ..⟩, fun w => ⟨fun h => ?_, fun h => ?_⟩⟩
  · have hop : classify p (.rType o a f3 b c f7) = classify p (.rType o a f3 b c f7') :=
      classifyR_ignores_funct7 h0 h5 f7 f7'
    refine ⟨hop, classifyR_ne_unknown h0 h5 f7, ?_⟩
    rw [format, hop]
    exact render_rType ..
  · have hlow : extract (tc32 imm) 0 5 = extract (tc32 imm') 0 5 := h
    rw [format_slli, format_slli, shamt_eq_extract, shamt_eq_extract, hlow]
  · rw [decode_fence h]
    exact ⟨rfl, rfl⟩
  · rw [decode_parseR h]
    exact ⟨_, _, _, _, _, rfl⟩
  · rw [decode_parseI (h.imp_right .inr), ← immI_eq_toInt]
    rfl

/-- Settles O29: each class of words fixes the fields that the operation select reads. -/
theorem foreignWords : Obligations.ForeignWords := by
  intro p w
  have hodd (h : w.getLsbD 25 = true) : (funct7 w).getLsbD 0 = true := by
    rw [BitVec.getLsbD_extractLsb]; exact h
  simp only [evaluate_op, evaluate_text]
  refine ⟨fun ho h7 => ?_, fun ho _ => classify_decode_system ho, fun ho _ himm => ?_, fun ho => ?_, fun ho h3 _ => ?_,
    fun hp ho h3 h25 => ?_, fun ho => ?_⟩
  · rw [classify_decode_R (opc := .op) ho, show extract w 25 7 = 1 from h7, decode_parseR ho]
    refine ⟨rfl, ?_, ?_, ?_, ?_, ?_, ?_, ?_⟩
    · rintro (h | h) <;> rw [show extract w 12 3 = _ from h] <;> rfl
    all_goals intro h; rw [show extract w 12 3 = _ from h]; rfl
  · rw [classify_decode_system ho]
    rcases himm with h | h | h <;> rw [h] <;> rfl
  · rw [decode_fence ho]
    rfl
  · rw [decode_parseI (.inr (.inr (.inl ho))), parseI, show extract w 0 7 = 0b0010011 from ho,
      show extract w 12 3 = 0b001 from h3, format_slli, shamt_immI]
    exact ⟨rfl, rfl⟩
  · refine classify_of_decodeInstr_error (e := .shiftImm) (decodeInstr_error_of_class ⟨ho, h3, fun _ => ?_, ?_⟩)
    · constructor <;> intro h7 <;> exact absurd (hodd h25) (by rw [h7]; decide)
    · rw [hp]; nofun
  · have hd : decode p w = .invalid := by
      rcases ho with h | h | h | h | h | ⟨hlow, h0⟩
      iterate 5 exact decode_invalid_of_unlisted (by rw [h]; decide) (by rw [h]; exact fun hz => absurd hz.1 (by decide))
      exact decode_invalid_of_unlisted (fun hl => hlow (low_bits_of_listed hl)) fun hz => h0 hz.1
    rw [hd]
    exact ⟨rfl, rfl⟩

end Sys2Proof.Proofs
end

section
/-! PROOF. What slicing does to a whole word, a shifted word and two adjacent slices: 40_field_extractor.md R63,
95_test_vectors.md section 2.1. -/

namespace Sys2Proof

variable {w : Word} {off n a b : Nat}

theorem extract_getLsbD_of_lt (h) {k : Nat} (hk : k < n) : (extract w off n h).getLsbD k = w.getLsbD (off + k) := by
  rw [extract_getLsbD, decide_eq_true hk, Bool.true_and]

theorem extract_whole (w : Word) : extract w 0 32 = w :=
  BitVec.eq_of_getLsbD_eq fun k hk => by rw [extract_getLsbD_of_lt _ hk, Nat.zero_add]

/-- The shifted word has at bit `k` what the word has at bit `off + k`. -/
theorem extract_shiftRight (h) (h') : extract (w >>> off) 0 n h' = extract w off n h :=
  BitVec.eq_of_getLsbD_eq fun k hk => by
    rw [extract_getLsbD_of_lt _ hk, extract_getLsbD_of_lt _ hk, Nat.zero_add, BitVec.getLsbD_ushiftRight]

/-- The remainder modulo `2^(a+b)` has its low `a` bits and, above them, the next `b` bits of the quotient. -/
theorem extract_toNat_add (h) (ha) (hb) :
    (extract w off (a + b) h).toNat = (extract w off a ha).toNat + 2 ^ a * (extract w (off + a) b hb).toNat := by
  rw [extract_toNat, extract_toNat, extract_toNat, Nat.pow_add, Nat.pow_add, Nat.mod_mul, Nat.div_div_eq_div_mul]

end Sys2Proof
end

section
/-! PROOF. The statements about the Field Extractor: 40_field_extractor.md R63, 95_test_vectors.md section 2.1. -/

namespace Sys2Proof.Proofs

/-- Settles O1: the value and the bits of a slice are the two laws of `extract`, the bound is that of its width, and
the worked examples are evaluated. -/
theorem extractIsTheSlice : Obligations.ExtractIsTheSlice :=
  ⟨fun w off n h => ⟨extract_toNat w off n h, (extract w off n h).isLt, fun _ hk => extract_getLsbD_of_lt h hk⟩,
    by decide, by decide⟩

/-- Settles O2: each law is the lemma about slicing the whole word, the shifted word, and two adjacent parts. -/
theorem extractLaws : Obligations.ExtractLaws :=
  ⟨extract_whole, fun _ _ _ h => congrArg BitVec.toNat (extract_shiftRight h _).symm,
    fun _ _ _ _ _ _ _ => extract_toNat_add _ _ _⟩

end Sys2Proof.Proofs
end

section
/-! PROOF. The record of a word, with its fields read by their bit numbers, and the word packed again from its record:
30_encoding.md R39 to R42, 41_decoder.md R69 to R78, R80. -/

namespace Sys2Proof

open Sys2Proof.Spec

variable {p : Params} {w : Word} {t : Tag}

/-! A parser's fields are the slices the rules name, and its immediate is the signed value of its pattern. -/

theorem parseR_eq_recR (w : Word) : parseR w = recR w := rfl
theorem parseI_eq_recI (w : Word) : parseI w = recI w := congrArg (Decoded.iType _ _ _ _) (immI_eq_toInt w)
theorem parseS_eq_recS (w : Word) : parseS w = recS w := congrArg (Decoded.sType _ _ _ _) (immS_eq_toInt w)
theorem parseB_eq_recB (w : Word) : parseB w = recB w := congrArg (Decoded.bType _ _ _ _) (immB_eq_toInt w)
theorem parseU_eq_recU (w : Word) : parseU w = recU w := congrArg (Decoded.uType _ _) (immU_eq_toInt w)
theorem parseJ_eq_recJ (w : Word) : parseJ w = recJ w := congrArg (Decoded.jType _ _) (immJ_eq_toInt w)

/-- Only the two terminals drop bits of the word. -/
theorem recordOf_repack (hf : t ≠ .FENCE) (hi : t ≠ .INVALID) (w : Word) : (t.recordOf w).repack = some w := by
  cases t with
  | R => exact congrArg some (packR_extract w)
  | I => exact congrArg some (packI_immI w)
  | S => exact congrArg some (packS_immS w)
  | B => exact congrArg some (packB_immB w)
  | U => exact congrArg some (packU_immU w)
  | J => exact congrArg some (packJ_immJ w)
  | FENCE => exact absurd rfl hf
  | INVALID => exact absurd rfl hi

theorem decode_repack (hf : (decode p w).tag ≠ .FENCE) (hi : (decode p w).tag ≠ .INVALID) :
    (decode p w).repack = some w := by
  rw [decode_eq_recordOf rfl]
  exact recordOf_repack hf hi w

end Sys2Proof
end

section
/-! PROOF. The statements about the record of a word and the word of an instruction: 41_decoder.md R69 to R78, R80. -/

namespace Sys2Proof.Proofs

open Sys2Proof.Spec

/-- Settles O12: the instruction of a word encodes to it unless it is FENCE, and the word of FENCE itself has FENCE's
opcode too. -/
theorem encodeOfDecode : Obligations.EncodeOfDecode := by
  intro p w i h
  obtain ⟨hwf, rfl | ⟨hfence, ho⟩⟩ := encode_of_decodeInstr h
  · exact ⟨hwf, fun _ => rfl, fun hfence => by rw [hfence]; rfl⟩
  · exact ⟨hwf, fun hne => absurd hfence hne, fun _ => ho⟩

/-- Settles O7: each arm of the multiplexer runs one parser, and that parser's record is the one of the rules. -/
theorem decodedRecordOfEveryWord : Obligations.DecodedRecordOfEveryWord := by
  intro p w
  refine ⟨fun h => ?U, fun h => ?J, fun h => ?I, fun h => ?B, fun h => ?S, fun h => ?R, decode_fence, fun h hz => ?zero,
    decode_invalid_of_opcodeZero, fun ho h0 => decode_invalid_of_unlisted ho fun hz => h0 hz.1⟩
  case U => rw [decode_parseU h, parseU_eq_recU]
  case J => rw [decode_parseJ h, parseJ_eq_recJ]
  case I => rw [decode_parseI h, parseI_eq_recI]
  case B => rw [decode_parseB h, parseB_eq_recB]
  case S => rw [decode_parseS h, parseS_eq_recS]
  case R => rw [decode_parseR h, parseR_eq_recR]
  case zero => rw [decode_zero h hz, parseR_eq_recR]

/-- Settles O9: re-packing is a left inverse of `decode` off the two terminals, and each terminal is one record. -/
theorem recordDeterminesTheWord : Obligations.RecordDeterminesTheWord := by
  refine ⟨fun p w => decode_repack, fun p w u hf hi heq => ?_, fun p w u hw hu => ?_, fun p w u hw hu => ?_⟩
  · have hw : (decode p w).repack = some w := decode_repack hf hi
    have hu : (decode p u).repack = some u := decode_repack (heq ▸ hf) (heq ▸ hi)
    rw [heq, hu] at hw
    exact (Option.some.inj hw).symm
  · rw [decode_eq_recordOf hw, decode_eq_recordOf hu]; rfl
  · rw [decode_eq_recordOf hw, decode_eq_recordOf hu]; rfl

end Sys2Proof.Proofs
end

section
/-! PROOF. The R-type family: a row of its table fixes the opcode, the operation select and the text of every word it
matches, and the select is `UNKNOWN` off the keys of funct7 alone (42_rtype.md R81 to R92). -/

namespace Sys2Proof.Machine

open Sys2Proof.Spec

variable {p : Params} {w : Word} {r : Decoded} {row : TableRow}

/-- A word whose record the operation select does not name gives the placeholder beside its record
(30_encoding.md R54). -/
theorem gives_unknown (hd : decode p w = r) (hop : classify p r = .UNKNOWN) : Gives p w (unknown r) := by
  refine gives_of_evaluate ?_
  rw [evaluate_of_decode hd, format_of_unknown hop, hop]
  rfl

/-- A word that a row of the table matches is legal and has the row's operation, whose operand class renders its record
(48_formatter.md R139, R142, R145). -/
theorem gives_of_row {text : String} (hrow : row ∈ opcodeTable p) (hm : row.matchesWord w) (hd : decode p w = r)
    (htext : render p.sep r row.op = text) : Gives p w ⟨r, row.op, true, text⟩ := by
  have hop : classify p r = row.op := hd ▸ classify_of_row hrow hm
  refine gives_of_evaluate ?_
  rw [evaluate_of_decode hd, format, hop, htext, (legalOf_eq_true _).mpr (opcodeTable_op_ne_unknown p row hrow)]

/-- The fall-through of the family (42_rtype.md R92). -/
theorem classifyR_eq_unknown_iff {funct3 : Funct3} {funct7 : Funct7} : classifyR funct3 funct7 = .UNKNOWN ↔
    (funct3 = 0b000 ∨ funct3 = 0b101) ∧ funct7 ≠ 0b0000000 ∧ funct7 ≠ 0b0100000 := by
  unfold classifyR
  split
  case h_1 | h_6 =>
    split_ifs with h0 h32
    · exact iff_of_false nofun fun h => h.2.1 h0
    · exact iff_of_false nofun fun h => h.2.2 h32
    · exact iff_of_true rfl ⟨by decide, h0, h32⟩
  all_goals simp

theorem opcode_of_tableR (hrow : row ∈ tableR) (h : row.matchesWord w) : extract w 0 7 = 0b0110011 := by
  have h0 := field_of_match h 0 7 (by decide)
  rw [(tableR_opcode row hrow).1, (tableR_opcode row hrow).2] at h0
  exact (and_ones7 _).symm.trans h0

/-- The row's mnemonic is the name of its operation, and its operands are the three registers. -/
theorem render_of_tableR (hrow : row ∈ tableR) (sep : TextSeparator) (w : Word) :
    render sep (recR w) row.op = textThreeRegs sep row.printed (rd w) (rs1 w) (rs2 w) := by
  simp only [tableR, List.mem_cons, List.not_mem_nil, or_false] at hrow
  rcases hrow with rfl | rfl | rfl | rfl | rfl | rfl | rfl | rfl | rfl | rfl <;> rfl

/-- Every row of the family, as a statement about all the words it matches (42_rtype.md R82 to R91). -/
theorem row_of_tableR (p : Params) : ∀ row ∈ tableR, Row p row.pattern row.mask fun w =>
    ⟨recR w, row.op, true, text3 p row.printed (rd w) (rs1 w) (rs2 w)⟩ := by
  intro row hrow w hm
  have hd : decode p w = recR w := decode_parseR (opcode_of_tableR hrow hm)
  exact gives_of_row (by simp [opcodeTable, hrow]) hm hd ((render_of_tableR hrow ..).trans (textThreeRegs_eq ..))

end Sys2Proof.Machine
end

section
/-! PROOF. The statement of 42_rtype.md. -/

namespace Sys2Proof.Proofs

open Sys2Proof.Machine Sys2Proof.Spec

/-- Settles O14: the ten rows are those of the R-type table, the zero word is that of O8, and `UNKNOWN` is decided by
funct3 and funct7. -/
theorem rTypeRows : Obligations.RTypeRows := by
  intro p
  have hrows := row_of_tableR p
  simp only [tableR, List.forall_mem_cons] at hrows
  obtain ⟨hadd, hsub, hsll, hslt, hsltu, hxor, hsrl, hsra, hor, hand, -⟩ := hrows
  refine ⟨hadd, hsub, hsll, hslt, hsltu, hxor, hsrl, hsra, hor, hand, zeroWordIsAdd.1 p,
    fun w ho h3 h0 h32 => ?_, fun _ _ _ _ _ _ => classifyR_eq_unknown_iff.mp, fun _ _ _ _ _ _ _ => rfl,
    fun _ _ _ _ _ f7 f7' h0 h5 => classifyR_ignores_funct7 h0 h5 f7 f7'⟩
  exact gives_unknown (decode_parseR ho) (classifyR_eq_unknown_iff.mpr ⟨h3, h0, h32⟩)

end Sys2Proof.Proofs
end

section
/-! PROOF. The I-type family: a row of its table fixes the opcode, the operation select and the text of every word it
matches (43_itype.md R94 to R115), and the words off its keys are the load, shift and system classes of
30_encoding.md R55. -/

namespace Sys2Proof.Machine

open Sys2Proof.Spec

variable {p : Params} {w : Word} {r : Decoded} {e : Unrecognised} {op : Op} {name : String} {pattern mask : Word}
  {row : TableRow}

theorem decode_eq_recI (h : IsIOpcode (opcode w)) : decode p w = recI w := (decode_parseI h).trans (parseI_eq_recI w)

/-- The record of a word in a class of 30_encoding.md R55 is kept, beside `UNKNOWN` and the placeholder (R54). -/
theorem gives_unknown_of_class (hd : decode p w = r) (h : e.Class p w) : Gives p w (unknown r) :=
  gives_unknown hd (hd ▸ classify_of_decodeInstr_error (decodeInstr_error_of_class h))

theorem textBaseOffset_eq (p : Params) (name : String) (r : RegIndex) (imm : Int) (base : RegIndex) :
    textBaseOffset p.sep name r imm base = textBase p name r imm base := by
  simp only [textBaseOffset, regText, String.append_assoc, show " x" = " " ++ "x" from rfl,
    show "(x" = "(" ++ "x" from rfl]

/-! The text view of an I-type record, one equation an operand form (30_encoding.md R61). -/

theorem render_regImm (hop : op ∈ [Op.JALR, .ADDI, .SLTI, .SLTIU, .XORI, .ORI, .ANDI]) (w : Word) :
    render p.sep (recI w) op = text2Imm p (opName op) (rd w) (rs1 w) (patI w).toInt := by
  rw [← textTwoRegsImm_eq]
  simp only [List.mem_cons, List.not_mem_nil, or_false] at hop
  rcases hop with rfl | rfl | rfl | rfl | rfl | rfl | rfl <;> rfl

theorem render_shift (hop : op ∈ [Op.SLLI, .SRLI, .SRAI]) (w : Word) :
    render p.sep (recI w) op = text2Imm p (opName op) (rd w) (rs1 w) (rs2 w).toNat := by
  rw [← textTwoRegsImm_eq, ← show shamt (immI w) = (rs2 w).toNat from shamt_immI w, immI_eq_toInt]
  simp only [List.mem_cons, List.not_mem_nil, or_false] at hop
  rcases hop with rfl | rfl | rfl <;> rfl

theorem render_load (hop : op ∈ [Op.LB, .LH, .LW, .LBU, .LHU]) (w : Word) :
    render p.sep (recI w) op = textBase p (opName op) (rd w) (patI w).toInt (rs1 w) := by
  rw [← textBaseOffset_eq]
  simp only [List.mem_cons, List.not_mem_nil, or_false] at hop
  rcases hop with rfl | rfl | rfl | rfl | rfl <;> rfl

theorem render_system (hop : op ∈ [Op.ECALL, .EBREAK]) (w : Word) : render p.sep (recI w) op = opName op := by
  simp only [List.mem_cons, List.not_mem_nil, or_false] at hop
  rcases hop with rfl | rfl <;> rfl

/-! The rows of the family. -/

/-- The rows test the whole opcode, it is of the I layout, and the mnemonic is the name of the operation. -/
theorem tableI_opcode_name : ∀ row ∈ tableI ++ tableShiftImm p,
    extract row.mask 0 7 = 127#7 ∧ IsIOpcode (extract row.pattern 0 7) ∧ opName row.op = row.printed := by
  unfold tableShiftImm
  cases p.shift <;> decide

theorem opcode_of_tableI (hrow : row ∈ tableI ++ tableShiftImm p) (h : row.matchesWord w) : IsIOpcode (opcode w) := by
  obtain ⟨hmask, hpattern, -⟩ := tableI_opcode_name row hrow
  have h0 := field_of_match h 0 7 (by decide)
  rw [hmask] at h0
  rw [← h0, and_ones7] at hpattern
  exact hpattern

theorem opName_of_tableI (hrow : ⟨op, name, pattern, mask⟩ ∈ tableI ++ tableShiftImm p) : opName op = name := by
  obtain ⟨-, -, hname⟩ := tableI_opcode_name _ hrow
  exact hname

theorem mem_opcodeTable_of_tableI (hrow : row ∈ tableI ++ tableShiftImm p) : row ∈ opcodeTable p := by
  simp only [opcodeTable, List.mem_append] at hrow ⊢
  tauto

/-- Every row of the family, as a statement about all the words it matches, with the text its operand form gives. -/
theorem row_of_tableI {text : Word → String} (hrow : ⟨op, name, pattern, mask⟩ ∈ tableI ++ tableShiftImm p)
    (htext : ∀ w, render p.sep (recI w) op = text w) : Row p pattern mask fun w => ⟨recI w, op, true, text w⟩ :=
  fun w hm => gives_of_row (mem_opcodeTable_of_tableI hrow) hm (decode_eq_recI (opcode_of_tableI hrow hm)) (htext w)

theorem row_regImm (hrow : ⟨op, name, pattern, mask⟩ ∈ tableI)
    (hop : op ∈ [Op.JALR, .ADDI, .SLTI, .SLTIU, .XORI, .ORI, .ANDI]) :
    Row p pattern mask fun w => ⟨recI w, op, true, text2Imm p name (rd w) (rs1 w) (patI w).toInt⟩ :=
  have hrow' := List.mem_append_left (tableShiftImm p) hrow
  row_of_tableI hrow' fun w => by rw [render_regImm hop, opName_of_tableI hrow']

theorem row_load (hrow : ⟨op, name, pattern, mask⟩ ∈ tableI) (hop : op ∈ [Op.LB, .LH, .LW, .LBU, .LHU]) :
    Row p pattern mask fun w => ⟨recI w, op, true, textBase p name (rd w) (patI w).toInt (rs1 w)⟩ :=
  have hrow' := List.mem_append_left (tableShiftImm p) hrow
  row_of_tableI hrow' fun w => by rw [render_load hop, opName_of_tableI hrow']

theorem row_shift (hrow : ⟨op, name, pattern, mask⟩ ∈ tableI ++ tableShiftImm p)
    (hop : op ∈ [Op.SLLI, .SRLI, .SRAI]) :
    Row p pattern mask fun w => ⟨recI w, op, true, text2Imm p name (rd w) (rs1 w) (rs2 w).toNat⟩ :=
  row_of_tableI hrow fun w => by rw [render_shift hop, opName_of_tableI hrow]

theorem row_system (hrow : ⟨op, name, pattern, mask⟩ ∈ tableI) (hop : op ∈ [Op.ECALL, .EBREAK]) :
    Row p pattern mask fun w => ⟨recI w, op, true, name⟩ :=
  have hrow' := List.mem_append_left (tableShiftImm p) hrow
  row_of_tableI hrow' fun w => by rw [render_system hop, opName_of_tableI hrow']

/-- The fall-through of ALU-immediate: of its rows only `101` has a key to miss (43_itype.md R112). -/
theorem classifyI_aluImm_eq_unknown_iff {funct3 : Funct3} {imm : Int} :
    classifyI p 0b0010011 funct3 imm = .UNKNOWN ↔
      funct3 = 0b101 ∧ shiftKey p imm ≠ 0 ∧ shiftKey p imm ≠ 0x20 := by
  simp only [classifyI, BitVec.reduceEq, if_true, if_false]
  split
  case h_8 => split_ifs with h0 h32 <;> simp [*]
  all_goals simp

/-- An I immediate whose upper part leaves the sign bit clear is the upper part and the shift amount together
(43_itype.md R110, R111). -/
theorem patI_toInt_of_funct7 {k : Funct7} (h : funct7 w = k) (hk : k.toNat < 64) :
    (patI w).toInt = 32 * k.toNat + (rs2 w).toNat := by
  subst h
  have hsplit : (patI w).toNat = (rs2 w).toNat + 2 ^ 5 * (funct7 w).toNat :=
    extract_toNat_add (a := 5) (b := 7) (by decide) (by decide) (by decide)
  have hrs2 : (rs2 w).toNat < 2 ^ 5 := (rs2 w).isLt
  rw [BitVec.toInt_eq_toNat_of_lt (by omega), hsplit]
  omega

end Sys2Proof.Machine
end

section
/-! PROOF. The statements of 43_itype.md. -/

namespace Sys2Proof.Proofs

open Sys2Proof.Machine Sys2Proof.Spec

/-- Settles O15: the six rows are rows of the I-type table, and the other load words are a class of 30_encoding.md
R55. -/
theorem jalrAndLoadRows : Obligations.JalrAndLoadRows := by
  refine fun p => ⟨row_regImm (by decide) (by decide), row_load (by decide) (by decide),
    row_load (by decide) (by decide), row_load (by decide) (by decide), row_load (by decide) (by decide),
    row_load (by decide) (by decide), fun w ho h3 => ?_⟩
  exact gives_unknown_of_class (e := .loadFunct3) (decode_eq_recI (.inr (.inl ho))) ⟨ho, h3⟩

/-- Settles O16: the six rows are rows of the I-type table, and their operand form prints the whole immediate. -/
theorem registerImmediateRows : Obligations.RegisterImmediateRows := fun _ =>
  ⟨row_regImm (by decide) (by decide), row_regImm (by decide) (by decide), row_regImm (by decide) (by decide),
    row_regImm (by decide) (by decide), row_regImm (by decide) (by decide), row_regImm (by decide) (by decide)⟩

/-- Settles O17: the rows of the right shifts are those of the parameter, the words off them are the shift class of
30_encoding.md R55, and the immediate is its upper part and the shift amount together. -/
theorem shiftImmediateRows : Obligations.ShiftImmediateRows := by
  intro p
  refine ⟨fun w => ⟨immUpper_immI w, shamt_immI w⟩, row_shift (List.mem_append_left _ (by decide)) (by decide),
    fun hp => ?funct7Field, fun w => ⟨fun hm => ?srli, fun hm => ?srai⟩, fun hp => ?wholeImm,
    fun a f3 b imm h => (classifyI_aluImm_eq_unknown_iff.mp h).1⟩
  case funct7Field =>
    refine ⟨row_shift ?_ (by decide), row_shift ?_ (by decide), fun w ho h3 h0 h32 => ?_⟩
    iterate 2 rw [tableShiftImm, hp]; decide
    exact gives_unknown_of_class (e := .shiftImm) (decode_eq_recI (.inr (.inr (.inl ho))))
      ⟨ho, h3, fun _ => ⟨h0, h32⟩, by rw [hp]; nofun⟩
  case srli | srai =>
    obtain ⟨-, -, h7⟩ := (matches_funct7 (by decide)).mp hm
    exact (patI_toInt_of_funct7 h7 (by decide)).trans (by simp [extract_ofNat])
  case wholeImm =>
    refine ⟨row_shift ?_ (by decide), row_shift ?_ (by decide), fun w ho h3 h0 h32 => ?_⟩
    iterate 2 rw [tableShiftImm, hp]; decide
    exact gives_unknown_of_class (e := .shiftImm) (decode_eq_recI (.inr (.inr (.inl ho))))
      ⟨ho, h3, by rw [hp]; nofun, fun _ => ⟨h0, h32⟩⟩

/-- Settles O18: the two rows are rows of the I-type table, printed bare, and the other system words are a class of
30_encoding.md R55. -/
theorem systemRows : Obligations.SystemRows := by
  refine fun p => ⟨row_system (by decide) (by decide), row_system (by decide) (by decide), fun w ho h0 h1 => ?_⟩
  exact gives_unknown_of_class (e := .systemImm) (decode_eq_recI (.inr (.inr (.inr ho)))) ⟨ho, h0, h1⟩

end Sys2Proof.Proofs
end

section
/-! PROOF. The S-type family: a row of its table fixes the opcode, the operation select and the text of every word it
matches (44_stype.md R116 to R119), and the store words off its keys are a class of 30_encoding.md R55. -/

namespace Sys2Proof.Machine

open Sys2Proof.Spec

variable {p : Params} {w : Word} {op : Op} {name : String} {pattern mask : Word} {row : TableRow}

/-- A row that tests the whole opcode fixes the opcode of the words it matches. -/
theorem opcode_of_match (hmask : extract row.mask 0 7 = 127#7) (h : row.matchesWord w) :
    opcode w = extract row.pattern 0 7 := by
  have h0 := field_of_match h 0 7 (by decide)
  rw [hmask, and_ones7] at h0
  exact h0

/-- The store and branch rows test the whole opcode, and the mnemonic is the name of the operation. -/
theorem tableSB_mask_name : ∀ row ∈ tableSB, extract row.mask 0 7 = 127#7 ∧ opName row.op = row.printed := by decide

theorem mem_opcodeTable_of_tableSB (hrow : row ∈ tableSB) : row ∈ opcodeTable p := by
  simp only [opcodeTable, List.mem_append]
  tauto

/-- A store or branch row as a statement about all the words it matches, from what its opcode decodes to and the text
its operand form gives. -/
theorem row_of_tableSB {record : Word → Decoded} {text : Word → String} (hrow : ⟨op, name, pattern, mask⟩ ∈ tableSB)
    (hdecode : ∀ w, opcode w = extract pattern 0 7 → decode p w = record w)
    (htext : ∀ w, render p.sep (record w) op = text w) : Row p pattern mask fun w => ⟨record w, op, true, text w⟩ := by
  intro w hm
  obtain ⟨hmask, -⟩ := tableSB_mask_name _ hrow
  have hd : decode p w = record w := hdecode w (opcode_of_match hmask hm)
  exact gives_of_row (mem_opcodeTable_of_tableSB hrow) hm hd (htext w)

theorem decode_eq_recS (h : opcode w = 0b0100011) : decode p w = recS w := (decode_parseS h).trans (parseS_eq_recS w)

/-- The text view of a store record: `rs2` first, the base `rs1` in parentheses (44_stype.md R116). -/
theorem render_store (hop : op ∈ [Op.SB, .SH, .SW]) (w : Word) :
    render p.sep (recS w) op = textBase p (opName op) (rs2 w) (patS w).toInt (rs1 w) := by
  rw [← textBaseOffset_eq]
  simp only [List.mem_cons, List.not_mem_nil, or_false] at hop
  rcases hop with rfl | rfl | rfl <;> rfl

theorem opcode_of_store_row : ∀ row ∈ tableSB, row.op ∈ [Op.SB, .SH, .SW] → extract row.pattern 0 7 = 0b0100011 := by
  decide

theorem row_store (hrow : ⟨op, name, pattern, mask⟩ ∈ tableSB) (hop : op ∈ [Op.SB, .SH, .SW]) :
    Row p pattern mask fun w => ⟨recS w, op, true, textBase p name (rs2 w) (patS w).toInt (rs1 w)⟩ := by
  obtain ⟨-, hname⟩ := tableSB_mask_name _ hrow
  have hopcode : extract pattern 0 7 = 0b0100011 := opcode_of_store_row _ hrow hop
  exact row_of_tableSB hrow (fun w ho => decode_eq_recS (ho.trans hopcode)) fun w => by rw [render_store hop, hname]

end Sys2Proof.Machine
end

section
/-! PROOF. The statement of 44_stype.md. -/

namespace Sys2Proof.Proofs

open Sys2Proof.Machine Sys2Proof.Spec

/-- Settles O19: the three rows are the store rows of the table, and the other store words are a class of
30_encoding.md R55. -/
theorem storeRows : Obligations.StoreRows := by
  refine fun p => ⟨row_store (by decide) (by decide), row_store (by decide) (by decide),
    row_store (by decide) (by decide), fun w ho h3 => ?_⟩
  exact gives_unknown_of_class (e := .storeFunct3) (decode_eq_recS ho) ⟨ho, h3⟩

end Sys2Proof.Proofs
end

section
/-! PROOF. The B-type family: a branch row of the store and branch table fixes the opcode, the operation select and the
text of every word it matches (45_btype.md R121 to R127). -/

namespace Sys2Proof.Machine

open Sys2Proof.Spec

variable {p : Params} {w : Word} {op : Op} {name : String} {pattern mask : Word}

/-- The operations of the six branch rows (45_btype.md R122 to R127). -/
abbrev branchOps : List Op := [.BEQ, .BNE, .BLT, .BGE, .BLTU, .BGEU]

theorem decode_eq_recB (h : opcode w = 0b1100011) : decode p w = recB w := (decode_parseB h).trans (parseB_eq_recB w)

/-- The text view of a branch record: the two registers compared, then the byte offset in signed decimal
(45_btype.md R121). -/
theorem render_branch (hop : op ∈ branchOps) (w : Word) :
    render p.sep (recB w) op = text2Imm p (opName op) (rs1 w) (rs2 w) (patB w).toInt := by
  rw [← textTwoRegsImm_eq]
  simp only [List.mem_cons, List.not_mem_nil, or_false] at hop
  rcases hop with rfl | rfl | rfl | rfl | rfl | rfl <;> rfl

theorem opcode_of_branch_row : ∀ row ∈ tableSB, row.op ∈ branchOps → extract row.pattern 0 7 = 0b1100011 := by decide

theorem row_branch (hrow : ⟨op, name, pattern, mask⟩ ∈ tableSB) (hop : op ∈ branchOps) :
    Row p pattern mask fun w => ⟨recB w, op, true, text2Imm p name (rs1 w) (rs2 w) (patB w).toInt⟩ := by
  obtain ⟨-, hname⟩ := tableSB_mask_name _ hrow
  have hopcode : extract pattern 0 7 = 0b1100011 := opcode_of_branch_row _ hrow hop
  exact row_of_tableSB hrow (fun w ho => decode_eq_recB (ho.trans hopcode)) fun w => by rw [render_branch hop, hname]

end Sys2Proof.Machine
end

section
/-! PROOF. The statement of 45_btype.md. -/

namespace Sys2Proof.Proofs

open Sys2Proof.Machine Sys2Proof.Spec

/-- Settles O20: the six rows are the branch rows of the table, and the other branch words are a class of
30_encoding.md R55. -/
theorem branchRows : Obligations.BranchRows := by
  refine fun p => ⟨row_branch (by decide) (by decide), row_branch (by decide) (by decide),
    row_branch (by decide) (by decide), row_branch (by decide) (by decide), row_branch (by decide) (by decide),
    row_branch (by decide) (by decide), fun w ho h3 => ?_⟩
  exact gives_unknown_of_class (e := .branchFunct3) (decode_eq_recB ho) ⟨ho, h3⟩

end Sys2Proof.Proofs
end

section
/-! PROOF. The U-type and J-type families: a row that tests the opcode, as a statement about all the words it matches,
and the record and the text of the words with the opcodes of LUI, AUIPC and JAL (46_utype_jtype.md R129 to R133). -/

namespace Sys2Proof.Machine

open Sys2Proof.Spec

variable {p : Params} {w : Word} {op : Op} {name : String} {pattern mask : Word} {row : TableRow}

/-- Any row of the table that tests the whole opcode, from what the opcode decodes to and the text the operand form
gives. -/
theorem row_of_opcode {record : Word → Decoded} {text : Word → String}
    (hrow : ⟨op, name, pattern, mask⟩ ∈ opcodeTable p) (hmask : extract mask 0 7 = 127#7)
    (hdecode : ∀ w, opcode w = extract pattern 0 7 → decode p w = record w)
    (htext : ∀ w, render p.sep (record w) op = text w) : Row p pattern mask fun w => ⟨record w, op, true, text w⟩ := by
  intro w hm
  have ho : opcode w = extract pattern 0 7 := opcode_of_match (row := ⟨op, name, pattern, mask⟩) hmask hm
  exact gives_of_row hrow hm (hdecode w ho) (htext w)

theorem mem_opcodeTable_of_tableUJFence (hrow : row ∈ tableUJFence) : row ∈ opcodeTable p :=
  List.mem_append_right _ hrow

theorem decode_eq_recU (h : opcode w = 0b0110111 ∨ opcode w = 0b0010111) : decode p w = recU w :=
  (decode_parseU h).trans (parseU_eq_recU w)

theorem decode_eq_recJ (h : opcode w = 0b1101111) : decode p w = recJ w := (decode_parseJ h).trans (parseJ_eq_recJ w)

theorem textRegImm_eq (p : Params) (name : String) (a : RegIndex) (imm : Int) :
    textRegImm p.sep name a imm = text1Imm p name a imm := by
  simp only [textRegImm, regText, String.append_assoc, show " x" = " " ++ "x" from rfl]

/-- The text view of a U record: the 20-bit value as it stands in the word, not shifted (46_utype_jtype.md R129). -/
theorem render_upperImm (hop : op ∈ [Op.LUI, .AUIPC]) (w : Word) :
    render p.sep (recU w) op = text1Imm p (opName op) (rd w) (patU w).toInt := by
  rw [← textRegImm_eq]
  simp only [List.mem_cons, List.not_mem_nil, or_false] at hop
  rcases hop with rfl | rfl <;> rfl

/-- The text view of a J record: the byte offset in signed decimal (46_utype_jtype.md R133). -/
theorem render_jal (w : Word) : render p.sep (recJ w) .JAL = text1Imm p "JAL" (rd w) (patJ w).toInt :=
  textRegImm_eq ..

end Sys2Proof.Machine
end

section
/-! PROOF. The statement of 46_utype_jtype.md. -/

namespace Sys2Proof.Proofs

open Sys2Proof.Machine Sys2Proof.Spec

/-- Settles O21: the three rows are rows of the table that test the opcode alone, so the opcode gives the record, and
the operand form prints the destination and the immediate as the record holds it. -/
theorem upperImmediateAndJumpRows : Obligations.UpperImmediateAndJumpRows := by
  refine fun p => ⟨?lui, ?auipc, ?jal⟩
  case lui =>
    exact row_of_opcode (mem_opcodeTable_of_tableUJFence (row := ⟨.LUI, "LUI", _, _⟩) (by decide)) rfl
      (fun _ ho => decode_eq_recU (.inl ho)) (render_upperImm (by decide))
  case auipc =>
    exact row_of_opcode (mem_opcodeTable_of_tableUJFence (row := ⟨.AUIPC, "AUIPC", _, _⟩) (by decide)) rfl
      (fun _ ho => decode_eq_recU (.inr ho)) (render_upperImm (by decide))
  case jal =>
    exact row_of_opcode (mem_opcodeTable_of_tableUJFence (row := ⟨.JAL, "JAL", _, _⟩) (by decide)) rfl
      (fun _ ho => decode_eq_recJ ho) render_jal

end Sys2Proof.Proofs
end

section
/-! PROOF. The terminal variants: which words have the INVALID record, and the text of every word that is no instruction
(47_fence_invalid.md R135). -/

namespace Sys2Proof.Machine

open Sys2Proof.Spec

variable {p : Params} {w : Word}

/-- The tag INVALID belongs to one record only. -/
theorem eq_invalid_iff_tag {r : Decoded} : r = .invalid ↔ r.tag = .INVALID := by
  cases r with
  | invalid => exact iff_of_true rfl rfl
  | _ => exact iff_of_false nofun nofun

/-- The words that fail the primary dispatch. -/
theorem decode_eq_invalid_iff : decode p w = .invalid ↔
    opcode w ∉ listedOpcodes ∧ ¬(opcode w = 0b0000000 ∧ (w = 0 ∨ p.opc0 = .rAll)) :=
  eq_invalid_iff_tag.trans decode_tag_iff

/-- The text does not tell at which dispatch a word failed. -/
theorem evaluate_text_of_unknown (h : (evaluate p w).op = .UNKNOWN) : (evaluate p w).text = "Invalid instruction" :=
  format_of_unknown h

end Sys2Proof.Machine
end

section
/-! PROOF. The statement of 47_fence_invalid.md. -/

namespace Sys2Proof.Proofs

open Sys2Proof.Machine Sys2Proof.Spec

/-- Settles O22: FENCE is a row of the table that tests the opcode alone; INVALID is the record of the words that fail
the primary dispatch and of no other, and every word without an operation has the placeholder as its text. -/
theorem terminalVariants : Obligations.TerminalVariants := by
  refine fun p => ⟨?fence, fun w ho hz => ?invalid, fun w hop => ?unknown⟩
  case fence =>
    exact row_of_opcode (mem_opcodeTable_of_tableUJFence (row := ⟨.FENCE, "FENCE", _, _⟩) (by decide)) rfl
      (fun _ ho => decode_fence ho) (fun _ => rfl)
  case invalid =>
    exact gives_unknown (decode_eq_invalid_iff.mpr ⟨ho, hz⟩) rfl
  case unknown =>
    have htext := evaluate_text_of_unknown hop
    exact ⟨htext, by rw [htext]; decide, decode_eq_invalid_iff⟩

end Sys2Proof.Proofs
end

section
/-! PROOF. The meaning of an instruction as one evaluation of its word, a step on a recognised word, and a run over a list
of words: 48_formatter.md R138, R142, 70_reset_and_hazards.md R158, R160, R165. -/

namespace Sys2Proof.Machine

variable {p : Params} {w : Word} {i : Instr} {s : State}

theorem evalWord_of_ok (h : decodeInstr s.params w = .ok i) : evalWord w s = exec i s := by
  rw [evalWord, h]

/-- The meaning of a word's instruction delivers what the algorithm gives for the word. -/
theorem exec_eq_evaluate (h : decodeInstr s.params w = .ok i) : Delivers s (exec i s) (evaluate s.params w) := by
  rw [← evalWord_of_ok h, evalWord_eq]
  rfl

/-- One more step of a run of the machine. -/
theorem core_run_succ {t : State} (k : Nat) (h : step s = .next t) : core.run (k + 1) s = core.run k t := by
  simp only [Host.Core.run, show core.step s = .next t from h]

/-- The outputs of a run are those of its words, in their order, whatever stands before and after. -/
theorem core_run_append (p : Params) (ws rest : List Word) (before : List Output) :
    core.run ws.length ⟨p, ws ++ rest, before⟩ = .next ⟨p, rest, before ++ ws.map (evaluate p)⟩ := by
  induction ws generalizing before with
  | nil => simp [Host.Core.run]
  | cons w ws ih =>
    rw [List.length_cons, core_run_succ ws.length (step_eq_evaluate rfl)]
    exact (ih _).trans (by simp)

/-- A run that presents all its words and starts with no output read. -/
theorem core_run_all (p : Params) (ws : List Word) :
    core.run ws.length ⟨p, ws, []⟩ = .next ⟨p, [], ws.map (evaluate p)⟩ := by
  simpa using core_run_append p ws [] []

/-- Placing a word in the empty list of reset presents that word alone (log entry 3). -/
theorem reset_withFetchWord (w : Word) : State.reset.withFetchWord 32 w.toNat = ⟨.default, [w], []⟩ := by
  have hw : BitVec.ofNat 32 (w.toNat % 2 ^ 32) = w := BitVec.eq_of_toNat_eq (by simp [w.isLt])
  rw [State.withFetchWord, hw]
  rfl

end Sys2Proof.Machine
end

section
/-! PROOF. The statements about every instruction's meaning, the step and the run: 48_formatter.md R138, R140,
60_exceptions.md R146, 70_reset_and_hazards.md R158, R160, R165. -/

namespace Sys2Proof.Proofs

open Sys2Proof.Machine

/-- Settles O25: two rows with a common word agree on the bits both masks test, and no two rows of the table do. -/
theorem noTwoRowsMatchOneWord : Obligations.NoTwoRowsMatchOneWord := opcodeTable_pairwise

/-- Settles O42: the word of a well-formed instruction decodes to it, and so its meaning is the word's evaluation. -/
theorem everyMeaningIsTheAlgorithm : Obligations.EveryMeaningIsTheAlgorithm := by
  intro s i hwf
  have hdecode : decodeInstr s.params (encode i) = .ok i := decodeInstr_encode hwf
  have hop : classify s.params (decode s.params (encode i)) = i.op := (op_eq_classify_decode hdecode).symm
  exact ⟨exec_eq_evaluate hdecode, hop, (legalOf_eq_true _).mpr (hop ▸ op_ne_unknown i)⟩

/-- Settles O44: evaluating a recognised word is running its instruction. -/
theorem stepRunsTheDecodedInstruction : Obligations.StepRunsTheDecodedInstruction := by
  intro s w rest i hs hi
  rw [step_of_pending hs]
  exact evalWord_of_ok hi

/-- Settles O46: the evaluation that a step delivers, written out. -/
theorem stepIsOneEvaluation : Obligations.StepIsOneEvaluation := fun _ _ _ => step_eq_evaluate

/-- Settles O47: a step with a word pending answers, and one without is refused under the one name. -/
theorem everyPresentedWordCompletes : Obligations.EveryPresentedWordCompletes := by
  refine ⟨fun s => ?_, fun s r => ?_⟩ <;> cases hs : s.pending with
  | nil => simp [step_of_empty hs, eq_comm]
  | cons w rest => simp [step_eq_evaluate hs]

/-- Settles O48: each step of a run evaluates one word, and the outputs of permuted words are permuted alike. -/
theorem runIsTheListOfEvaluations : Obligations.RunIsTheListOfEvaluations :=
  ⟨core_run_append, fun p ws vs hperm => ⟨_, _, hperm.map (evaluate p), core_run_all p ws, core_run_all p vs⟩⟩

/-- Settles O50: a step that answers has taken the next word and added its evaluation. -/
theorem stepFrame : Obligations.StepFrame := by
  intro s t hstep
  obtain ⟨w, hpending, hparams, hresults⟩ := step_eq_next hstep
  rw [hpending, hresults]
  exact ⟨hparams, rfl, rfl, ⟨_, rfl⟩, List.length_append⟩

/-- Settles O53: the one word presented after reset is evaluated under the default parameters, the zero word as ADD. -/
theorem outputsRightAfterReset : Obligations.OutputsRightAfterReset := by
  have hstep (w : Word) : step (State.reset.withFetchWord 32 w.toNat) =
      .next ⟨.default, [], [evaluate .default w]⟩ := by
    rw [reset_withFetchWord]
    exact step_eq_evaluate rfl
  refine ⟨hstep, (hstep 0).trans ?_⟩
  rw [show evaluate .default 0 = ⟨.rType 0 0 0 0 0 0, .ADD, true, "ADD x0 x0 x0"⟩ by decide]

end Sys2Proof.Proofs
end

section
/-! PROOF. What a meaning delivers, from the text its operand form prints, and the shift amount of an immediate:
30_encoding.md R61, 43_itype.md R102. -/

namespace Sys2Proof

theorem shamt_eq_emod (imm : Int) : (shamt imm : Int) = imm % 32 := by
  rw [shamt_eq_extract, extract_toNat, tc32, BitVec.toNat_ofInt]
  omega

end Sys2Proof

namespace Sys2Proof.Machine

/-- A meaning that names its instruction is legal, and what it hands over is its record, its operation and its text. -/
theorem delivers_deliver {op : Op} {record : Decoded} {text text' : String} {s : State} (hop : op ≠ .UNKNOWN)
    (htext : text = text') : Delivers s (deliver op record text s) ⟨record, op, true, text'⟩ := by
  rw [deliver, (legalOf_eq_true op).mpr hop, htext]
  rfl

theorem textTwoRegsImm_shamt (p : Params) (name : String) (a b : RegIndex) (imm : Int) :
    textTwoRegsImm p.sep name a b (shamt imm) = Spec.text2Imm p name a b (imm % 32) := by
  rw [textTwoRegsImm_eq, shamt_eq_emod]

end Sys2Proof.Machine
end

section
/-! PROOF. The statements about the meanings, family by family: 42_rtype.md to 47_fence_invalid.md, 70_reset_and_hazards.md
R160. -/

namespace Sys2Proof.Proofs

open Sys2Proof.Machine

/-- Settles O36: every R-type meaning prints its three registers. -/
theorem rTypeMeanings : Obligations.RTypeMeanings := by
  intro s opc a b c f7
  refine ⟨?_, ?_, ?_, ?_, ?_, ?_, ?_, ?_, ?_, ?_⟩ <;> exact delivers_deliver nofun (textThreeRegs_eq ..)

/-- Settles O37: JALR prints two registers and the immediate, a load its destination and the base with the offset. -/
theorem jalrAndLoadMeanings : Obligations.JalrAndLoadMeanings := by
  intro s a b f3 imm
  refine ⟨delivers_deliver nofun (textTwoRegsImm_eq ..), ?_, ?_, ?_, ?_, ?_⟩ <;>
    exact delivers_deliver nofun (textBaseOffset_eq ..)

/-- Settles O38: six meanings print the whole immediate, the three shifts its low five bits. -/
theorem aluImmediateMeanings : Obligations.AluImmediateMeanings := by
  intro s a b imm
  refine ⟨?_, ?_, ?_, ?_, ?_, ?_, ?slli, ?srli, ?srai⟩
  case slli | srli | srai => exact delivers_deliver nofun (textTwoRegsImm_shamt ..)
  all_goals exact delivers_deliver nofun (textTwoRegsImm_eq ..)

/-- Settles O39: the three meanings print the bare mnemonic. -/
theorem systemAndFenceMeanings : Obligations.SystemAndFenceMeanings := by
  intro s a b f3
  refine ⟨?_, ?_, ?_⟩ <;> exact delivers_deliver nofun rfl

/-- Settles O40: a store prints the register stored and the base with the offset, a branch two registers and the
offset. -/
theorem storeAndBranchMeanings : Obligations.StoreAndBranchMeanings := by
  intro s b c imm
  refine ⟨?sb, ?sh, ?sw, ?_, ?_, ?_, ?_, ?_, ?_⟩
  case sb | sh | sw => exact delivers_deliver nofun (textBaseOffset_eq ..)
  all_goals exact delivers_deliver nofun (textTwoRegsImm_eq ..)

/-- Settles O41: the three meanings print the destination and the immediate. -/
theorem upperImmediateAndJumpMeanings : Obligations.UpperImmediateAndJumpMeanings := by
  intro s a imm
  refine ⟨?_, ?_, ?_⟩ <;> exact delivers_deliver nofun (textRegImm_eq ..)

end Sys2Proof.Proofs
end

section
/-! PROOF. The text of every record, one operand form a class of operations, and its first token: 48_formatter.md R139,
R142, R145, 30_encoding.md R61. -/

namespace Sys2Proof

/-- The operations of each operand form of 30_encoding.md R61; those of the branches are `Machine.branchOps`. -/
abbrev bareOps : List Op := [.ECALL, .EBREAK, .FENCE]
abbrev threeRegOps : List Op := [.ADD, .SUB, .SLL, .SLT, .SLTU, .XOR, .SRL, .SRA, .OR, .AND]
abbrev regImmOps : List Op := [.JALR, .ADDI, .SLTI, .SLTIU, .XORI, .ORI, .ANDI]
abbrev shiftOps : List Op := [.SLLI, .SRLI, .SRAI]
abbrev loadOps : List Op := [.LB, .LH, .LW, .LBU, .LHU]
abbrev storeOps : List Op := [.SB, .SH, .SW]
abbrev upperImmOps : List Op := [.LUI, .AUIPC]

/-- The operations that a record's format has rows for (48_formatter.md R138). -/
def Decoded.ops : Decoded → List Op
  | .rType _ _ _ _ _ _ => threeRegOps
  | .iType _ _ _ _ _   => [.ECALL, .EBREAK] ++ regImmOps ++ shiftOps ++ loadOps
  | .sType _ _ _ _ _   => storeOps
  | .bType _ _ _ _ _   => Machine.branchOps
  | .uType _ _ _       => upperImmOps
  | .jType _ _ _       => [.JAL]
  | .fence _           => [.FENCE]
  | .invalid           => []

end Sys2Proof

namespace Sys2Proof.Machine

variable {p : Params} {r : Decoded} {op : Op}

/-! Each arm of the operation select stays in the operations of its format, or falls through to `UNKNOWN`. -/

theorem classifyR_mem (funct3 : Funct3) (funct7 : Funct7) : classifyR funct3 funct7 ∈ .UNKNOWN :: threeRegOps := by
  unfold classifyR
  split
  case h_1 | h_6 => split_ifs <;> decide
  all_goals decide

theorem classifyI_mem (p : Params) (o : Opcode) (funct3 : Funct3) (imm : Int) :
    classifyI p o funct3 imm ∈ .UNKNOWN :: ([.ECALL, .EBREAK] ++ regImmOps ++ shiftOps ++ loadOps) := by
  unfold classifyI
  split
  · decide
  split
  · split <;> decide
  split
  · split
    case h_8 => split_ifs <;> decide
    all_goals decide
  split_ifs <;> decide

theorem classifyS_mem (funct3 : Funct3) : classifyS funct3 ∈ .UNKNOWN :: storeOps := by
  unfold classifyS
  split <;> decide

theorem classifyB_mem (funct3 : Funct3) : classifyB funct3 ∈ .UNKNOWN :: branchOps := by
  unfold classifyB
  split <;> decide

theorem classifyU_mem (o : Opcode) : classifyU o ∈ .UNKNOWN :: upperImmOps := by
  unfold classifyU
  split_ifs <;> decide

theorem classify_mem (p : Params) (r : Decoded) : classify p r ∈ .UNKNOWN :: r.ops := by
  cases r with
  | rType => exact classifyR_mem ..
  | iType => exact classifyI_mem ..
  | sType => exact classifyS_mem ..
  | bType => exact classifyB_mem ..
  | uType => exact classifyU_mem ..
  | jType | fence => exact .tail _ (.head _)
  | invalid => exact .head _

/-- The text of a record under an operation of its format: the arms of `render` (48_formatter.md R142) without the
placeholder. -/
inductive TextForm (p : Params) : Decoded → Op → String → Prop
  | bare (r : Decoded) {op : Op} (h : op ∈ bareOps) : TextForm p r op (opName op)
  | threeRegs (o : Opcode) (a : RegIndex) (f3 : Funct3) (b c : RegIndex) (f7 : Funct7) {op : Op}
    (h : op ∈ threeRegOps) : TextForm p (.rType o a f3 b c f7) op (textThreeRegs p.sep (opName op) a b c)
  | regImm (o : Opcode) (a : RegIndex) (f3 : Funct3) (b : RegIndex) (imm : Int) {op : Op} (h : op ∈ regImmOps) :
    TextForm p (.iType o a f3 b imm) op (textTwoRegsImm p.sep (opName op) a b imm)
  | shift (o : Opcode) (a : RegIndex) (f3 : Funct3) (b : RegIndex) (imm : Int) {op : Op} (h : op ∈ shiftOps) :
    TextForm p (.iType o a f3 b imm) op (textTwoRegsImm p.sep (opName op) a b (shamt imm))
  | load (o : Opcode) (a : RegIndex) (f3 : Funct3) (b : RegIndex) (imm : Int) {op : Op} (h : op ∈ loadOps) :
    TextForm p (.iType o a f3 b imm) op (textBaseOffset p.sep (opName op) a imm b)
  | store (o : Opcode) (f3 : Funct3) (a b : RegIndex) (imm : Int) {op : Op} (h : op ∈ storeOps) :
    TextForm p (.sType o f3 a b imm) op (textBaseOffset p.sep (opName op) b imm a)
  | branch (o : Opcode) (f3 : Funct3) (a b : RegIndex) (imm : Int) {op : Op} (h : op ∈ branchOps) :
    TextForm p (.bType o f3 a b imm) op (textTwoRegsImm p.sep (opName op) a b imm)
  | upperImm (o : Opcode) (a : RegIndex) (imm : Int) {op : Op} (h : op ∈ upperImmOps) :
    TextForm p (.uType o a imm) op (textRegImm p.sep (opName op) a imm)
  | jump (o : Opcode) (a : RegIndex) (imm : Int) :
    TextForm p (.jType o a imm) .JAL (textRegImm p.sep (opName .JAL) a imm)

theorem textForm_render (h : op ∈ r.ops) : TextForm p r op (render p.sep r op) := by
  cases r with
  | rType o a f3 b c f7 => fin_cases h <;> exact .threeRegs _ _ _ _ _ _ (by decide)
  | iType o a f3 b imm =>
    simp only [Decoded.ops, List.mem_append] at h
    rcases h with ((h | h) | h) | h <;> fin_cases h
    iterate 2 exact .bare _ (by decide)
    iterate 7 exact .regImm _ _ _ _ _ (by decide)
    iterate 3 exact .shift _ _ _ _ _ (by decide)
    iterate 5 exact .load _ _ _ _ _ (by decide)
  | sType o f3 a b imm => fin_cases h <;> exact .store _ _ _ _ _ (by decide)
  | bType o f3 a b imm => fin_cases h <;> exact .branch _ _ _ _ _ (by decide)
  | uType o a imm => fin_cases h <;> exact .upperImm _ _ _ (by decide)
  | jType o a imm => fin_cases h; exact .jump _ _ _
  | fence o => fin_cases h; exact .bare _ (by decide)
  | invalid => cases h

/-- The text of every record with an operation: no such record is printed as the placeholder of `render`. -/
theorem textForm_format (h : classify p r ≠ .UNKNOWN) : TextForm p r (classify p r) (format p r) :=
  textForm_render (List.mem_of_ne_of_mem h (classify_mem p r))

theorem opName_head (h : op ≠ .UNKNOWN) : (opName op).toList.head? ∉ [none, some 'I'] := by
  cases op with
  | UNKNOWN => exact absurd rfl h
  | _ => decide

/-- The mnemonic is the text's first token. -/
theorem TextForm.token {text : String} (h : TextForm p r op text) :
    text = opName op ∨ ∃ operands, text = opName op ++ " x" ++ operands := by
  cases h with
  | bare => exact .inl rfl
  | _ =>
    simp only [textThreeRegs_eq, textTwoRegsImm_eq, textBaseOffset_eq, textRegImm_eq, String.append_assoc]
    exact .inr ⟨_, rfl⟩

/-- A text with operands begins as its mnemonic does, which is not empty and has not the letter of the placeholder. -/
theorem TextForm.head {text : String} (h : TextForm p r op text) (hop : op ≠ .UNKNOWN) :
    text.toList.head? ∉ [none, some 'I'] := by
  have hname := opName_head hop
  rcases h.token with rfl | ⟨operands, rfl⟩
  · exact hname
  · have hne : (opName op).toList ≠ [] := fun h0 => hname (by simp [h0])
    rwa [String.append_assoc, String.toList_append, List.head?_append_of_ne_nil _ hne]

theorem opName_of_row (p : Params) : ∀ row ∈ opcodeTable p, opName row.op = row.printed := by
  obtain ⟨opc0, shift, sep⟩ := p
  cases opc0 <;> cases shift <;> cases sep <;> decide

end Sys2Proof.Machine
end

section
/-! PROOF. The statements of 48_formatter.md about the text and its first token: R139, R141, R142, R145. -/

namespace Sys2Proof.Proofs

open Sys2Proof.Machine

/-- Settles O24: the row selects its operation, whose name is the first token of the text. -/
theorem rowsPrintTheirMnemonic : Obligations.RowsPrintTheirMnemonic := by
  intro p w row hrow hm
  have hop : classify p (decode p w) = row.op := classify_of_row hrow hm
  have hform := textForm_format (hop ▸ opcodeTable_op_ne_unknown p row hrow)
  rw [← opName_of_row p row hrow, ← hop]
  exact ⟨rfl, hform.token⟩

/-- Settles O30: off its opcodes an arm that reads the opcode falls through, and the other arms do not read it. -/
theorem recordsOutsideTheDecoder : Obligations.RecordsOutsideTheDecoder := by
  intro p
  have unknown {r : Decoded} (h : classify p r = .UNKNOWN) :
      classify p r = .UNKNOWN ∧ format p r = "Invalid instruction" := ⟨h, format_of_unknown h⟩
  refine ⟨fun o a f3 b imm ho => unknown ?_, fun o a imm hlui hauipc => unknown ?_, fun _ _ _ _ _ _ _ => rfl,
    fun _ _ _ _ _ _ => rfl, fun _ _ _ _ _ _ => rfl, fun _ _ _ => rfl, fun _ => rfl⟩
  · simp only [List.mem_cons, List.not_mem_nil, or_false, not_or] at ho
    obtain ⟨hjalr, hload, halu, hsystem⟩ := ho
    simp only [classify, classifyI, if_neg hjalr, if_neg hload, if_neg halu, if_neg hsystem]
  · rw [classify, classifyU, if_neg hlui, if_neg hauipc]

/-- Settles O32: no mnemonic is empty or begins as the placeholder does. -/
theorem placeholderExactlyForUnknown : Obligations.PlaceholderExactlyForUnknown := by
  intro p r
  by_cases hop : classify p r = .UNKNOWN
  · rw [format_of_unknown hop]
    exact ⟨iff_of_true rfl hop, by decide⟩
  · have hhead := (textForm_format hop).head hop
    exact ⟨iff_of_false (fun h => by simp [h] at hhead) hop, fun h => by simp [h] at hhead⟩

end Sys2Proof.Proofs
end

section
/-! PROOF. The characters and the length of a text, from those of its parts: 48_formatter.md R143. -/

namespace Sys2Proof.Machine

variable {p : Params} {r : Decoded} {op : Op}

/-- The characters of a text with operands; the placeholder has its own besides (48_formatter.md R143). -/
def TextChar (p : Params) (c : Char) : Prop :=
  ('A' ≤ c ∧ c ≤ 'Z') ∨ c = 'x' ∨ ('0' ≤ c ∧ c ≤ '9') ∨ c = ' ' ∨ c = '-' ∨ c = '(' ∨ c = ')' ∨
    (c = ',' ∧ p.sep = .commaSpace)

/-- A string of such characters. -/
def TextChars (p : Params) (t : String) : Prop := ∀ c ∈ t.toList, TextChar p c

@[simp] theorem textChars_append {t u : String} : TextChars p (t ++ u) ↔ TextChars p t ∧ TextChars p u := by
  simp only [TextChars, String.toList_append, List.forall_mem_append]

@[simp] theorem textChars_blank : TextChars p " " := by simp [TextChars, TextChar]
@[simp] theorem textChars_x : TextChars p "x" := by simp [TextChars, TextChar]
@[simp] theorem textChars_minus : TextChars p "-" := by simp [TextChars, TextChar]
@[simp] theorem textChars_open : TextChars p "(" := by simp [TextChars, TextChar]
@[simp] theorem textChars_close : TextChars p ")" := by simp [TextChars, TextChar]

@[simp] theorem textChars_separator : TextChars p (separator p.sep) := by
  cases hsep : p.sep <;> simp [TextChars, TextChar, separator, hsep]

theorem textChars_repr (n : Nat) : TextChars p (Nat.repr n) := by
  intro c hc
  rw [← dec_natCast, dec_natCast_toList] at hc
  exact .inr (.inr (.inl (digit_of_mem_toDigits hc)))

@[simp] theorem textChars_dec (i : Int) : TextChars p (dec i) := by
  rcases dec_cases i with ⟨n, -, hn⟩ | ⟨n, -, hn⟩ <;> simp [hn, textChars_repr]

@[simp] theorem textChars_regText (i : RegIndex) : TextChars p (regText i) := by simp [regText]

theorem textChars_opName (h : op ≠ .UNKNOWN) : TextChars p (opName op) := by
  have hupper : ∀ c ∈ (opName op).toList, 'A' ≤ c ∧ c ≤ 'Z' := by
    cases op with
    | UNKNOWN => exact absurd rfl h
    | _ => simp [opName]
  exact fun c hc => .inl (hupper c hc)

/-- Every part of an operand form is written in the characters of the rule. -/
theorem TextForm.textChars {text : String} (h : TextForm p r op text) (hop : op ≠ .UNKNOWN) : TextChars p text := by
  have hname : TextChars p (opName op) := textChars_opName hop
  cases h with
  | bare => exact hname
  | threeRegs => simp [textThreeRegs, hname]
  | regImm | shift | branch => simp [textTwoRegsImm, hname]
  | load | store => simp [textBaseOffset, hname]
  | upperImm | jump => simp [textRegImm, hname]

/-! The lengths of the numerals and of the register operands. -/

theorem dec_length_le {i : Int} {k : Nat} (hk : 0 < k) (h : -(10 ^ k : Int) < i ∧ i < 10 ^ k) :
    (dec i).length ≤ k + 1 := by
  rcases dec_cases i with ⟨n, rfl, hn⟩ | ⟨n, rfl, hn⟩ <;> rw [hn]
  · have hlen := Nat.repr_length n k hk (by exact_mod_cast h.2)
    omega
  · have hlen := Nat.repr_length n k hk (by have := neg_lt_neg_iff.mp h.1; exact_mod_cast this)
    rw [String.length_append, show "-".length = 1 from rfl]
    omega

theorem dec_natCast_length_le {n k : Nat} (hk : 0 < k) (h : n < 10 ^ k) : (dec n).length ≤ k :=
  Nat.repr_length n k hk h

theorem regText_length_le (i : RegIndex) : (regText i).length ≤ 3 := by
  have hdec : (dec i.toNat).length ≤ 2 := dec_natCast_length_le (by decide) (by have := i.isLt; omega)
  rw [regText, String.length_append, show "x".length = 1 from rfl]
  omega

/-! The numerals of the immediates in their ranges (10_state.md R15), and of a shift amount. -/

variable {imm : Int}

theorem dec_length_of_immOk12 (h : immOk12 imm = true) : (dec imm).length ≤ 5 :=
  dec_length_le (k := 4) (by decide) (by have := immOk12_iff.mp h; omega)

theorem dec_length_of_immOkB (h : immOkB imm = true) : (dec imm).length ≤ 5 :=
  dec_length_le (k := 4) (by decide) (by have := immOkB_iff.mp h; omega)

theorem dec_length_of_immOkU (h : immOkU imm = true) : (dec imm).length ≤ 7 :=
  dec_length_le (k := 6) (by decide) (by have := immOkU_iff.mp h; omega)

theorem dec_length_of_immOkJ (h : immOkJ imm = true) : (dec imm).length ≤ 8 :=
  dec_length_le (k := 7) (by decide) (by have := immOkJ_iff.mp h; omega)

theorem dec_shamt_length_le (imm : Int) : (dec (shamt imm)).length ≤ 2 :=
  dec_natCast_length_le (by decide) (by have := shamt_eq_emod imm; omega)

/-! The operand forms. -/

variable (sep : TextSeparator) (name : String) (a b c : RegIndex)

theorem textThreeRegs_length_le :
    (textThreeRegs sep name a b c).length ≤ name.length + 10 + 2 * (separator sep).length := by
  have ha := regText_length_le a
  have hb := regText_length_le b
  have hc := regText_length_le c
  simp only [textThreeRegs, String.length_append, show " ".length = 1 from rfl]
  omega

theorem textTwoRegsImm_length_le (imm : Int) : (textTwoRegsImm sep name a b imm).length ≤
    name.length + 7 + 2 * (separator sep).length + (dec imm).length := by
  have ha := regText_length_le a
  have hb := regText_length_le b
  simp only [textTwoRegsImm, String.length_append, show " ".length = 1 from rfl]
  omega

theorem textBaseOffset_length_le (imm : Int) : (textBaseOffset sep name a imm b).length ≤
    name.length + 9 + (separator sep).length + (dec imm).length := by
  have ha := regText_length_le a
  have hb := regText_length_le b
  simp only [textBaseOffset, String.length_append, show " ".length = 1 from rfl, show "(".length = 1 from rfl,
    show ")".length = 1 from rfl]
  omega

theorem textRegImm_length_le (imm : Int) : (textRegImm sep name a imm).length ≤
    name.length + 4 + (separator sep).length + (dec imm).length := by
  have ha := regText_length_le a
  simp only [textRegImm, String.length_append, show " ".length = 1 from rfl]
  omega

/-- With operands in range a text has at most sixteen characters beside two separators. -/
theorem TextForm.length {text : String} (h : TextForm p r op text) (hwf : r.wellFormed = true) :
    text.length ≤ 16 + 2 * (separator p.sep).length := by
  have hsep : 1 ≤ (separator p.sep).length := by cases p.sep <;> decide
  cases h with
  | bare r hop =>
    have hname := (by decide : ∀ op ∈ bareOps, (opName op).length ≤ 6) op hop
    omega
  | threeRegs o a f3 b c f7 hop =>
    have hname := (by decide : ∀ op ∈ threeRegOps, (opName op).length ≤ 4) op hop
    have hlen := textThreeRegs_length_le p.sep (opName op) a b c
    omega
  | regImm o a f3 b imm hop =>
    have hname := (by decide : ∀ op ∈ regImmOps, (opName op).length ≤ 4) op hop
    have himm := dec_length_of_immOk12 hwf
    have hlen := textTwoRegsImm_length_le p.sep (opName op) a b imm
    omega
  | shift o a f3 b imm hop =>
    have hname := (by decide : ∀ op ∈ shiftOps, (opName op).length ≤ 4) op hop
    have himm := dec_shamt_length_le imm
    have hlen := textTwoRegsImm_length_le p.sep (opName op) a b (shamt imm)
    omega
  | load o a f3 b imm hop =>
    have hname := (by decide : ∀ op ∈ loadOps, (opName op).length ≤ 3) op hop
    have himm := dec_length_of_immOk12 hwf
    have hlen := textBaseOffset_length_le p.sep (opName op) a b imm
    omega
  | store o f3 a b imm hop =>
    have hname := (by decide : ∀ op ∈ storeOps, (opName op).length ≤ 3) op hop
    have himm := dec_length_of_immOk12 hwf
    have hlen := textBaseOffset_length_le p.sep (opName op) b a imm
    omega
  | branch o f3 a b imm hop =>
    have hname := (by decide : ∀ op ∈ branchOps, (opName op).length ≤ 4) op hop
    have himm := dec_length_of_immOkB hwf
    have hlen := textTwoRegsImm_length_le p.sep (opName op) a b imm
    omega
  | upperImm o a imm hop =>
    have hname := (by decide : ∀ op ∈ upperImmOps, (opName op).length ≤ 5) op hop
    have himm := dec_length_of_immOkU hwf
    have hlen := textRegImm_length_le p.sep (opName op) a imm
    omega
  | jump o a imm =>
    have hname : (opName .JAL).length ≤ 3 := by decide
    have himm := dec_length_of_immOkJ hwf
    have hlen := textRegImm_length_le p.sep (opName .JAL) a imm
    omega

/-- The text of a word whose output is known. -/
theorem format_of_gives {w : Word} {o : Output} (h : Spec.Gives p w o) : format p (decode p w) = o.text :=
  congrArg Output.text h.1

end Sys2Proof.Machine
end

section
/-! PROOF. The statement of 48_formatter.md about the characters and the lengths of the text: R143. -/

namespace Sys2Proof.Proofs

open Sys2Proof.Machine

/-- Settles O34: each operand form is written in the characters of the rule and bounded by its parts, and three rows of
the table print the longest texts. -/
theorem textAlphabetAndLength : Obligations.TextAlphabetAndLength := by
  refine ⟨fun p r hwf => ?bounds, by decide, fun p => ?reached⟩
  case bounds =>
    by_cases hop : classify p r = .UNKNOWN
    · rw [format_of_unknown hop]
      exact ⟨fun c hc => .inr (.inl hc), fun _ => ⟨by decide, fun h => absurd hop h⟩, fun _ => by decide⟩
    · have hform := textForm_format hop
      have hlen := hform.length hwf
      refine ⟨fun c hc => (hform.textChars hop c hc).imp_right .inr, fun hsep => ?_, fun hsep => ?_⟩ <;>
        rw [hsep] at hlen
      · have hspace : (format p r).length ≤ 18 := hlen
        exact ⟨by omega, fun _ => hspace⟩
      · exact hlen
  case reached =>
    have hbgeu := format_of_gives (row_branch (p := p) (op := .BGEU) (name := "BGEU") (pattern := 0x00007063)
      (mask := 0x0000707F) (by decide) (by decide) 0x80A57063 (by decide))
    have haddi := format_of_gives (row_regImm (p := p) (op := .ADDI) (name := "ADDI") (pattern := 0x00000013)
      (mask := 0x0000707F) (by decide) (by decide) 0x800F8F93 (by decide))
    have hlbu := format_of_gives (row_load (p := p) (op := .LBU) (name := "LBU") (pattern := 0x00004003)
      (mask := 0x0000707F) (by decide) (by decide) 0x80054503 (by decide))
    rw [hbgeu, haddi, hlbu]
    dsimp only [Spec.text2Imm, Spec.textBase]
    refine ⟨fun h => ?_, fun h => ?_, fun h => ?_, fun h => ?_⟩ <;> rw [h] <;> decide

end Sys2Proof.Proofs
end
